-- ==== Sys2Proof/Word.lean ====
section
/-! DEFINITION. The two widths of the hardware (R6): a byte of data and a 16-bit address. -/

namespace Sys2Proof

/-- An 8-bit value, the spec's `u8` (R7). -/
abbrev Byte := BitVec 8

/-- A 16-bit value, the spec's `u16` (R7): an address or the program counter. -/
abbrev Word := BitVec 16

end Sys2Proof
end

