-- ==== Sys2Proof/Machine/Bits.lean ====
section
/-! DEFINITION. Byte order and extension: the bit-field helpers every other file uses (R7, R9, R54). -/

namespace Sys2Proof

/-- `w[15:8]`, which is also the page of an address (R7). -/
def hi8 (w : Word) : Byte := w.extractLsb' 8 8

/-- `w[7:0]` (R7). -/
def lo8 (w : Word) : Byte := w.extractLsb' 0 8

/-- `hi:lo`, the 16-bit value `hi * 256 + lo` (R7). -/
def join (hi lo : Byte) : Word := hi ++ lo

/-- `zext_16(b)` (R9): the byte with a zero high byte; as an address, the byte's place in page 0. -/
def zext16 (b : Byte) : Word := b.zeroExtend 16

/-- `sext_16(b)` (R9): the byte read as two's complement and widened. -/
def sext16 (b : Byte) : Word := b.signExtend 16

end Sys2Proof
end

