-- ==== Sys2Proof/Config.lean ====
section
/-! DEFINITION. What is fixed for a machine: the implementation parameters of R6, in a configuration record so that a claim
can name them, and the free answer of the bus (R52). The parameters are fixed for a machine and are no state of the hardware (R34); `State` carries the record (log 2), so that what is said of
every state is said of every value of the parameters. The values the spec takes are `Config.taken`
(Machine/OpcodeTable.lean). -/

namespace Sys2Proof

/-- The parameters of R6, each under its own name. -/
structure Config where
  /-- STACK_PUSH_PREDECREMENT: push decrements then writes and pull reads then increments (R27, R28, D6). -/
  stackPushPredecrement : Bool
  /-- PUSH_B_ON_HW_INTERRUPT: bit 4 of the status byte that NMI and IRQ entry push (R236, D3). -/
  pushBOnHwInterrupt : Bool
  /-- BRK_PC_PUSH_OFFSET, 1 or 2: BRK pushes the address of its opcode plus this (R204, D8). -/
  brkPcPushOffset : Nat
  /-- JMP_INDIRECT_PAGE_WRAP: the high byte of an indirect target is read in the pointer's page (R112, D9). -/
  jmpIndirectPageWrap : Bool
  /-- ILLEGAL_OPERAND_BYTES, at least 1: the bytes skipped after an illegal opcode byte. OPEN in the spec (R90, D13). -/
  illegalOperandBytes : Nat
  /-- ILLEGAL_CYCLES: the cycle count reported for an illegal opcode. OPEN in the spec (R90, D13). -/
  illegalCycles : Nat
  /-- INTERRUPT_CYCLES: the cycles a step that services an interrupt adds (R245, D21). -/
  interruptCycles : Nat
  /-- BASE_CYCLES: the base cycle count of each opcode byte value, in order (R288, D21). -/
  baseCycles : List Nat
  deriving DecidableEq, Repr

/-- The ranges R6 gives the parameters. -/
def Config.wf (c : Config) : Bool :=
  (c.brkPcPushOffset == 1 || c.brkPcPushOffset == 2) && decide (1 ≤ c.illegalOperandBytes) &&
    c.baseCycles.length == 256

/-- What the environment answers when bus event number `n` is a read of an address that is not plain memory: ROM, unmapped,
write-only, a device (R52, D24, U9; log 10). A FREE VALUE: it has no body, so what is proved holds for every bus. The event
number lets the answer differ from read to read, and so follow any earlier read or write. -/
opaque Config.busAnswer (n : Nat) (addr : Word) : Byte

end Sys2Proof
end

