-- ==== Sys2Proof/Machine/OpcodeTable.lean ====
section
/-! DEFINITION. What the opcode table says of each opcode byte beside its mnemonic (R34: fixed configuration): the
addressing mode (R84), the operand width (R81), the base cycle count and the page-cross flag (R85), and the illegal
values (R91). -/

namespace Sys2Proof

/-- The 13 addressing modes (R100), and the mark of an illegal row (R90). -/
inductive Mode where
  | implicit | accumulator | immediate
  | zeroPage | zeroPageX | zeroPageY
  | absolute | absoluteX | absoluteY
  | indirect | indirectX | indirectY
  | relative
  | illegalFallback
  deriving DecidableEq, Repr

/-- How many operand bytes are READ after the opcode byte (R81). The bytes an illegal opcode skips are not read (R90),
so its width here is 0; `execIll` moves PC over them. -/
def Mode.operandWidth : Mode → Nat
  | .implicit | .accumulator | .illegalFallback => 0
  | .immediate | .zeroPage | .zeroPageX | .zeroPageY | .indirectX | .indirectY | .relative => 1
  | .absolute | .absoluteX | .absoluteY | .indirect => 2

open Mode in
/-- The addressing mode of each opcode byte, in order (R84): sixteen rows, one for each high nibble. -/
def modeTable : List (List Mode) :=
  [
   /- 0x -/ [implicit, indirectX, illegalFallback, illegalFallback, illegalFallback, zeroPage, zeroPage, illegalFallback,
    implicit, immediate, accumulator, illegalFallback, illegalFallback, absolute, absolute, illegalFallback],
   /- 1x -/ [relative, indirectY, illegalFallback, illegalFallback, illegalFallback, zeroPageX, zeroPageX, illegalFallback,
    implicit, absoluteY, illegalFallback, illegalFallback, illegalFallback, absoluteX, absoluteX, illegalFallback],
   /- 2x -/ [absolute, indirectX, illegalFallback, illegalFallback, zeroPage, zeroPage, zeroPage, illegalFallback,
    implicit, immediate, accumulator, illegalFallback, absolute, absolute, absolute, illegalFallback],
   /- 3x -/ [relative, indirectY, illegalFallback, illegalFallback, illegalFallback, zeroPageX, zeroPageX, illegalFallback,
    implicit, absoluteY, illegalFallback, illegalFallback, illegalFallback, absoluteX, absoluteX, illegalFallback],
   /- 4x -/ [implicit, indirectX, illegalFallback, illegalFallback, illegalFallback, zeroPage, zeroPage, illegalFallback,
    implicit, immediate, accumulator, illegalFallback, absolute, absolute, absolute, illegalFallback],
   /- 5x -/ [relative, indirectY, illegalFallback, illegalFallback, illegalFallback, zeroPageX, zeroPageX, illegalFallback,
    implicit, absoluteY, illegalFallback, illegalFallback, illegalFallback, absoluteX, absoluteX, illegalFallback],
   /- 6x -/ [implicit, indirectX, illegalFallback, illegalFallback, illegalFallback, zeroPage, zeroPage, illegalFallback,
    implicit, immediate, accumulator, illegalFallback, indirect, absolute, absolute, illegalFallback],
   /- 7x -/ [relative, indirectY, illegalFallback, illegalFallback, illegalFallback, zeroPageX, zeroPageX, illegalFallback,
    implicit, absoluteY, illegalFallback, illegalFallback, illegalFallback, absoluteX, absoluteX, illegalFallback],
   /- 8x -/ [illegalFallback, indirectX, illegalFallback, illegalFallback, zeroPage, zeroPage, zeroPage, illegalFallback,
    implicit, illegalFallback, implicit, illegalFallback, absolute, absolute, absolute, illegalFallback],
   /- 9x -/ [relative, indirectY, illegalFallback, illegalFallback, zeroPageX, zeroPageX, zeroPageY, illegalFallback,
    implicit, absoluteY, implicit, illegalFallback, illegalFallback, absoluteX, illegalFallback, illegalFallback],
   /- Ax -/ [immediate, indirectX, immediate, illegalFallback, zeroPage, zeroPage, zeroPage, illegalFallback,
    implicit, immediate, implicit, illegalFallback, absolute, absolute, absolute, illegalFallback],
   /- Bx -/ [relative, indirectY, illegalFallback, illegalFallback, zeroPageX, zeroPageX, zeroPageY, illegalFallback,
    implicit, absoluteY, implicit, illegalFallback, absoluteX, absoluteX, absoluteY, illegalFallback],
   /- Cx -/ [immediate, indirectX, illegalFallback, illegalFallback, zeroPage, zeroPage, zeroPage, illegalFallback,
    implicit, immediate, implicit, illegalFallback, absolute, absolute, absolute, illegalFallback],
   /- Dx -/ [relative, indirectY, illegalFallback, illegalFallback, illegalFallback, zeroPageX, zeroPageX, illegalFallback,
    implicit, absoluteY, illegalFallback, illegalFallback, illegalFallback, absoluteX, absoluteX, illegalFallback],
   /- Ex -/ [immediate, indirectX, illegalFallback, illegalFallback, zeroPage, zeroPage, zeroPage, illegalFallback,
    implicit, immediate, implicit, illegalFallback, absolute, absolute, absolute, illegalFallback],
   /- Fx -/ [relative, indirectY, illegalFallback, illegalFallback, illegalFallback, zeroPageX, zeroPageX, illegalFallback,
    implicit, absoluteY, illegalFallback, illegalFallback, illegalFallback, absoluteX, absoluteX, illegalFallback]]

/-- The addressing mode of an opcode byte. -/
def modeOf (op : Byte) : Mode := (modeTable.getD (op.toNat / 16) []).getD (op.toNat % 16) .illegalFallback

/-- How many operand bytes are read after an opcode byte: the length depends on byte 0 alone (R81). -/
def operandWidth (op : Byte) : Nat := (modeOf op).operandWidth

/-- The illegal opcode byte values (R91), 105 of them. -/
def illegalOpcodes : List Byte :=
  [0x02, 0x03, 0x04, 0x07, 0x0B, 0x0C, 0x0F, 0x12, 0x13, 0x14, 0x17, 0x1A, 0x1B, 0x1C, 0x1F] ++
  [0x22, 0x23, 0x27, 0x2B, 0x2F, 0x32, 0x33, 0x34, 0x37, 0x3A, 0x3B, 0x3C, 0x3F, 0x42, 0x43] ++
  [0x44, 0x47, 0x4B, 0x4F, 0x52, 0x53, 0x54, 0x57, 0x5A, 0x5B, 0x5C, 0x5F, 0x62, 0x63, 0x64] ++
  [0x67, 0x6B, 0x6F, 0x72, 0x73, 0x74, 0x77, 0x7A, 0x7B, 0x7C, 0x7F, 0x80, 0x82, 0x83, 0x87] ++
  [0x89, 0x8B, 0x8F, 0x92, 0x93, 0x97, 0x9B, 0x9C, 0x9E, 0x9F, 0xA3, 0xA7, 0xAB, 0xAF, 0xB2] ++
  [0xB3, 0xB7, 0xBB, 0xBF, 0xC2, 0xC3, 0xC7, 0xCB, 0xCF, 0xD2, 0xD3, 0xD4, 0xD7, 0xDA, 0xDB] ++
  [0xDC, 0xDF, 0xE2, 0xE3, 0xE7, 0xEB, 0xEF, 0xF2, 0xF3, 0xF4, 0xF7, 0xFA, 0xFB, 0xFC, 0xFF]

/-- Whether an opcode byte is illegal (R91). -/
def isIllegal (op : Byte) : Bool := illegalOpcodes.contains op

/-- The Operation descriptor's extra-cycle-on-page-cross flag: the column "+1 on page cross" of R85 (R116, R286). -/
def pageCrossExtra (op : Byte) : Bool :=
  List.contains
    ([0x11, 0x19, 0x1D, 0x31, 0x39, 0x3D, 0x51, 0x59, 0x5D, 0x71, 0x79, 0x7D] ++
     [0xB1, 0xB9, 0xBC, 0xBD, 0xBE, 0xD1, 0xD9, 0xDD, 0xF1, 0xF9, 0xFD])
    op

/-- The base cycle counts BASE_CYCLES this spec takes: the column "cyc" of R85 (R288), by opcode byte. An illegal row
holds 0, which nothing reads: its cost is ILLEGAL_CYCLES (R90). -/
def baseCyclesTaken : List Nat :=
  List.flatten [
   [7, 6, 0, 0, 0, 3, 5, 0, 3, 2, 2, 0, 0, 4, 6, 0],
   [2, 5, 0, 0, 0, 4, 6, 0, 2, 4, 0, 0, 0, 4, 7, 0],
   [6, 6, 0, 0, 3, 3, 5, 0, 4, 2, 2, 0, 4, 4, 6, 0],
   [2, 5, 0, 0, 0, 4, 6, 0, 2, 4, 0, 0, 0, 4, 7, 0],
   [6, 6, 0, 0, 0, 3, 5, 0, 3, 2, 2, 0, 3, 4, 6, 0],
   [2, 5, 0, 0, 0, 4, 6, 0, 2, 4, 0, 0, 0, 4, 7, 0],
   [6, 6, 0, 0, 0, 3, 5, 0, 4, 2, 2, 0, 5, 4, 6, 0],
   [2, 5, 0, 0, 0, 4, 6, 0, 2, 4, 0, 0, 0, 4, 7, 0],
   [0, 6, 0, 0, 3, 3, 3, 0, 2, 0, 2, 0, 4, 4, 4, 0],
   [2, 6, 0, 0, 4, 4, 4, 0, 2, 5, 2, 0, 0, 5, 0, 0],
   [2, 6, 2, 0, 3, 3, 3, 0, 2, 2, 2, 0, 4, 4, 4, 0],
   [2, 5, 0, 0, 4, 4, 4, 0, 2, 4, 2, 0, 4, 4, 4, 0],
   [2, 6, 0, 0, 3, 3, 5, 0, 2, 2, 2, 0, 4, 4, 6, 0],
   [2, 5, 0, 0, 0, 4, 6, 0, 2, 4, 0, 0, 0, 4, 7, 0],
   [2, 6, 0, 0, 3, 3, 5, 0, 2, 2, 2, 0, 4, 4, 6, 0],
   [2, 5, 0, 0, 0, 4, 6, 0, 2, 4, 0, 0, 0, 4, 7, 0]]

/-- The parameters at the values the spec takes (R6), and ILLEGAL_OPERAND_BYTES and ILLEGAL_CYCLES, which R6 leaves OPEN,
at the values it suggests. DESIGN CHOICE for those two (log 2): no statement rests on them. -/
def Config.taken : Config :=
  { stackPushPredecrement := true
    pushBOnHwInterrupt := true
    brkPcPushOffset := 2
    jmpIndirectPageWrap := true
    illegalOperandBytes := 1
    illegalCycles := 2
    interruptCycles := 7
    baseCycles := baseCyclesTaken }

end Sys2Proof
end

