-- ==== Sys2Proof/Machine/State.lean ====
section
/-! DEFINITION. The state of the machine (R20), the reasons a step can stop, and the state after power-up (R39, R270). -/

namespace Sys2Proof.Machine

/-- The stored bits of the status byte P (R25). Bit 5 is hard-wired 1 (R26) and therefore not stored (log 5); the byte as
software sees it is `Status.toByte`. -/
structure Status where
  /-- Carry, bit 0. -/
  c : Bool
  /-- Zero, bit 1. -/
  z : Bool
  /-- InterruptDisable, bit 2: masks IRQ (R234). -/
  i : Bool
  /-- Decimal, bit 3: stored and inert (R31). -/
  d : Bool
  /-- Break, bit 4 (R30). -/
  b : Bool
  /-- Overflow, bit 6. -/
  v : Bool
  /-- Negative, bit 7. -/
  n : Bool
  deriving DecidableEq, Repr

/-- The two run states (R33). -/
inductive RunState where
  | running
  | halted
  deriving DecidableEq, Repr

/-- One event on the bus port (R51): the address, and the byte that was returned or written. -/
inductive BusEvent where
  | read (addr : Word) (value : Byte)
  | write (addr : Word) (value : Byte)
  deriving DecidableEq, Repr

/-- A range of addresses of the environment's address map, ends included: whether the bus is plain memory there, the case
R61 speaks of (R52, D24; log 1). -/
structure Region where
  first : Word
  last : Word
  plain : Bool
  deriving DecidableEq, Repr

/-- The bytes of the plain memory behind the bus (R50, R61; log 1) that are not `unlistedByte`, at rising addresses.
`Memory.wf` (Machine/Ops.lean) states the form. -/
abbrev Memory := List Host.Cell

/-- What an address of plain memory that no entry lists reads as. DESIGN CHOICE (log 1): the spec leaves the memory's contents unspecified (R39). -/
def unlistedByte : BitVec 8 := 0x00

/-- The machine: the nine elements of R20, the memory behind the bus, and fields of the model's own (`addressMap`, log 1;
`cfg`, log 2; `elapsed` and `bus`, log 3; `portEvents`, log 10). -/
@[ext]
structure State where
  /-- A, the accumulator (R21). -/
  a : Byte
  /-- X, an index register (R22). -/
  x : Byte
  /-- Y, an index register (R22). -/
  y : Byte
  /-- SP, the stack pointer, an offset in page 0x01 (R23). -/
  sp : Byte
  /-- PC, the program counter (R24). -/
  pc : Word
  /-- P, the status byte (R25). -/
  p : Status
  /-- The latch of NMI requests (R32). -/
  pendingNmi : Bool
  /-- The latch of IRQ requests (R32). -/
  pendingIrq : Bool
  /-- Running or Halted (R33). -/
  runState : RunState
  /-- The plain memory behind the bus (R20, R50). -/
  mem : Memory
  /-- Where the bus is plain memory (R61): the first range that holds an address decides, and an address in none is plain.
  Any other address is answered by the environment (R52). No operation of the machine writes it. -/
  addressMap : List Region
  /-- The parameters of R6; no operation writes it. -/
  cfg : Config
  /-- Output: the cycles the last step has reported so far (R82, R240); nothing reads it (R285). -/
  elapsed : Nat
  /-- Output: the bus events of the last `step`, `reset` or `PowerUp`, in order (R51, R60); nothing reads it. -/
  bus : List BusEvent
  /-- The number of bus events since construction: which answer of the environment comes next (R52, log 10). -/
  portEvents : Nat
  deriving DecidableEq, Repr

/-- Why the machine stops. -/
inductive Fault where
  /-- Raised by `step` while Halted, and by nothing else: the error value the engine reports for that misuse of its control
  interface (R252, U15). SAFE: the spec gives the same outcome, and no state changes. -/
  | steppedWhileHalted
  deriving DecidableEq, Repr

/-- Why an instruction has no meaning. -/
inductive Refusal where
  /-- An arm of `exec` that is not modelled yet would answer with its mnemonic. No arm does: every instruction has its
  meaning. SAFE: it could only stop a run. -/
  | notModelled (mnemonic : String)
  deriving DecidableEq, Repr

/-- What a step or a meaning answers. -/
abbrev Result := Host.Outcome State Fault Refusal

/-- The machine after `PowerUp()` (R39, R270) on a bus that is plain memory throughout and lists nothing, so that the RESET
vector reads 0x0000 (log 4); the two events are PowerUp's vector reads. `powerUp` (Machine/Interface.lean) is the same for
any bus. -/
def State.reset : State :=
  { a := 0x00
    x := 0x00
    y := 0x00
    sp := 0xFD
    pc := 0x0000
    p := { c := false, z := false, i := true, d := false, b := true, v := false, n := false }
    pendingNmi := false
    pendingIrq := false
    runState := .running
    mem := []
    addressMap := []
    cfg := Config.taken
    elapsed := 0
    bus := [.read 0xFFFC 0x00, .read 0xFFFD 0x00]
    portEvents := 2 }

end Sys2Proof.Machine
end

