-- ==== Sys2Proof/Machine/Flags.lean ====
section
/-! DEFINITION. The status byte as a byte (R25, R26, R30) and every flag computation of the ALU (R10, R140, R143, R165 to
R168). -/

namespace Sys2Proof.Machine

/-- Bit `k` of a byte, `v[k]` (R7). -/
def bit (v : Byte) (k : Nat) : Bool := v.getLsbD k

/-- The byte that holds `f` in bit `k` and 0 elsewhere. -/
def bitAt (f : Bool) (k : Nat) : Byte := if f then 1 <<< k else 0

/-- P as a byte (R25): N V 1 B D I Z C, with bit 5 always 1 (R26). -/
def Status.toByte (p : Status) : Byte :=
  bitAt p.n 7 ||| bitAt p.v 6 ||| bitAt true 5 ||| bitAt p.b 4 ||| bitAt p.d 3 ||| bitAt p.i 2 ||| bitAt p.z 1 |||
    bitAt p.c 0

/-- P from a pulled byte, as PLP and RTI load it (R184, R205): the six flags from the byte, B 0, bit 5 still 1. -/
def Status.ofPulled (v : Byte) : Status :=
  { c := bit v 0, z := bit v 1, i := bit v 2, d := bit v 3, b := false, v := bit v 6, n := bit v 7 }

/-- The copy of P that is pushed, with `b` in bit 4 (R182, R236). -/
def Status.pushed (p : Status) (b : Bool) : Byte := Status.toByte { p with b := b }

/-- `SetZN(v)` (R10). -/
def Status.setZN (v : Byte) (p : Status) : Status := { p with z := v == 0, n := bit v 7 }

/-- What an ALU operation gives: the 8-bit result, the new carry and the overflow. -/
structure AluResult where
  value : Byte
  carry : Bool
  overflow : Bool
  deriving DecidableEq, Repr

/-- `AddWithCarry(a, m, c)` (R140), the one adder. The Decimal flag is no input (R31). -/
def addWithCarry (a m : Byte) (c : Bool) : AluResult :=
  let sum9 : Nat := a.toNat + m.toNat + c.toNat
  let r : Byte := BitVec.ofNat 8 sum9
  { value := r, carry := decide (0xFF < sum9), overflow := ((a ^^^ r) &&& (m ^^^ r) &&& 0x80) != 0 }

/-- `A + M + C` (R141). -/
def aluAdd (a m : Byte) (c : Bool) : AluResult := addWithCarry a m c

/-- `A + ~M + C` (R142). -/
def aluSub (a m : Byte) (c : Bool) : AluResult := addWithCarry a (~~~m) c

/-- The flags `Compare(reg, m)` leaves (R143): C when reg >= m unsigned, Z and N from the difference. -/
def Status.compare (reg m : Byte) (p : Status) : Status :=
  Status.setZN (reg - m) { p with c := decide (m.toNat ≤ reg.toNat) }

/-- The flags BIT leaves (R164): Z from the and, N and V from bits 7 and 6 of the memory byte. -/
def Status.bitTest (a m : Byte) (p : Status) : Status := { p with z := (a &&& m) == 0, n := bit m 7, v := bit m 6 }

/-- The result and the carry out of ASL (R165); the old carry is not used. -/
def shiftLeft (v : Byte) (_c : Bool) : Byte × Bool := (v <<< 1, bit v 7)

/-- The result and the carry out of LSR (R166); the old carry is not used. -/
def shiftRight (v : Byte) (_c : Bool) : Byte × Bool := (v >>> 1, bit v 0)

/-- The result and the carry out of ROL (R167): the old carry enters at bit 0. -/
def rotateLeft (v : Byte) (c : Bool) : Byte × Bool := ((v <<< 1) ||| bitAt c 0, bit v 7)

/-- The result and the carry out of ROR (R168): the old carry enters at bit 7. -/
def rotateRight (v : Byte) (c : Bool) : Byte × Bool := ((v >>> 1) ||| bitAt c 7, bit v 0)

/-- The flags a shift or rotate leaves: C the bit shifted out, Z and N from the result (R165 to R168). -/
def Status.shifted (r : Byte × Bool) (p : Status) : Status := Status.setZN r.1 { p with c := r.2 }

end Sys2Proof.Machine
end

