-- ==== Sys2Proof/Machine/Ops.lean ====
section
/-! DEFINITION. The named operations over memory, registers and the stack (R10, R23, R27, R28), the count of cycles (R82,
R286), entering a handler and returning from one (R205, R236). -/

namespace Sys2Proof.Machine

/-! ### Memory (R50, R52, R61; log 1) -/

/-- Read one byte: `unlistedByte` where nothing is listed. -/
def Memory.read : Memory → Nat → Byte
  | [], _ => unlistedByte
  | (a, v) :: m, k => if a = k then v else Memory.read m k

/-- Write one byte, keeping the canonical form: an entry equal to `unlistedByte` is not listed. -/
def Memory.write : Memory → Nat → Byte → Memory
  | [], k, v => if v = unlistedByte then [] else [(k, v)]
  | (a, w) :: m, k, v =>
    if k < a then (if v = unlistedByte then (a, w) :: m else (k, v) :: (a, w) :: m)
    else if k = a then (if v = unlistedByte then m else (k, v) :: m)
    else (a, w) :: Memory.write m k v

/-- Canonical from address `lo` on: addresses rising and below 65536, no entry equal to `unlistedByte`. -/
def Memory.wfFrom : Nat → Memory → Bool
  | _, [] => true
  | lo, (a, v) :: m => decide (lo ≤ a) && decide (a < 65536) && (v != unlistedByte) && Memory.wfFrom (a + 1) m

/-- The canonical form of memory: equal memories are equal lists. -/
def Memory.wf (m : Memory) : Bool := Memory.wfFrom 0 m

/-- Whether the bus is plain memory at an address: the first range of the map that holds it decides (R61; log 1). -/
def plainIn : List Region → Word → Bool
  | [], _ => true
  | r :: rs, a => if r.first.toNat ≤ a.toNat && a.toNat ≤ r.last.toNat then r.plain else plainIn rs a

/-! ### Registers -/

namespace State

def setA (v : Byte) (s : State) : State := { s with a := v }
def setX (v : Byte) (s : State) : State := { s with x := v }
def setY (v : Byte) (s : State) : State := { s with y := v }
def setSp (v : Byte) (s : State) : State := { s with sp := v }
def setPc (v : Word) (s : State) : State := { s with pc := v }
def setP (p : Status) (s : State) : State := { s with p := p }

/-- `SetZN(v)` on P (R10). -/
def setZN (v : Byte) (s : State) : State := s.setP (s.p.setZN v)

/-- Count cycles towards the number the step returns (R82). -/
def addCycles (n : Nat) (s : State) : State := { s with elapsed := s.elapsed + n }

/-- Put one event at the end of the events on the port (R60). -/
def logEvent (e : BusEvent) (s : State) : State := { s with bus := s.bus ++ [e], portEvents := s.portEvents + 1 }

/-- The byte the plain memory behind the bus holds at an address. -/
def byteAt (s : State) (addr : Word) : Byte := s.mem.read addr.toNat

/-- Whether the bus is plain memory at an address (R61). -/
def isPlain (s : State) (addr : Word) : Bool := plainIn s.addressMap addr

/-- What the bus returns when event number `n` is a read (R52): the byte held where it is plain memory (R61), and anywhere
else whatever the environment answers (D24). -/
def answerAt (n : Nat) (addr : Word) (s : State) : Byte :=
  if s.isPlain addr then s.byteAt addr else Config.busAnswer n addr

/-- The plain memory after a write (R61); a write elsewhere leaves it as it is. -/
def memAfterWrite (addr : Word) (v : Byte) (s : State) : Memory :=
  if s.isPlain addr then s.mem.write addr.toNat v else s.mem

end State

/-! ### The bus port (R10, R51, R57) -/

/-- `Read8(a)`: one MemRead, which always returns some byte (R52). -/
def read8 (addr : Word) (s : State) : Byte × State :=
  (s.answerAt s.portEvents addr, s.logEvent (.read addr (s.answerAt s.portEvents addr)))

/-- `Write8(a, v)`: one MemWrite, which is always accepted (R52). Plain memory holds the byte from then on (R61); what any
other address makes of it shows in the environment's later answers only (D24). -/
def write8 (addr : Word) (v : Byte) (s : State) : State :=
  { s with mem := s.memAfterWrite addr v }.logEvent (.write addr v)

/-- A 16-bit read at two given addresses, low byte first (R54). -/
def read16At (loAddr hiAddr : Word) (s : State) : Word × State :=
  let lo := read8 loAddr s
  let hi := read8 hiAddr lo.2
  (join hi.1 lo.1, hi.2)

/-- `Read16(a)` (R10). -/
def read16 (addr : Word) (s : State) : Word × State := read16At addr (addr + 1) s

/-! ### The stack (R23, R27, R28) -/

/-- The stack address an SP value denotes: `0x0100 | SP` (R23). -/
def stackAddr (sp : Byte) : Word := join 0x01 sp

/-- Where a push made at `sp` writes (R27). -/
def pushAddr (c : Config) (sp : Byte) : Word := stackAddr (if c.stackPushPredecrement then sp - 1 else sp)

/-- Where a pull made at `sp` reads (R28). -/
def pullAddr (c : Config) (sp : Byte) : Word := stackAddr (if c.stackPushPredecrement then sp else sp + 1)

/-- `Push8(v)` (R27). -/
def push8 (v : Byte) (s : State) : State := (write8 (pushAddr s.cfg s.sp) v s).setSp (s.sp - 1)

/-- `Pull8()` (R28). -/
def pull8 (s : State) : Byte × State :=
  let r := read8 (pullAddr s.cfg s.sp) s
  (r.1, r.2.setSp (s.sp + 1))

/-- Push a 16-bit value, high byte first (R54). -/
def push16 (v : Word) (s : State) : State := push8 (lo8 v) (push8 (hi8 v) s)

/-- Pull a 16-bit value, low byte first (R203, R205). -/
def pull16 (s : State) : Word × State :=
  let lo := pull8 s
  let hi := pull8 lo.2
  (join hi.1 lo.1, hi.2)

/-! ### The end of an instruction -/

/-- BASE_CYCLES[op] (R288). -/
def baseCycles (c : Config) (op : Byte) : Nat := c.baseCycles.getD op.toNat 0

/-- The cycles of a legal instruction (R82, R286): base, one more on a page cross where the descriptor says so, and the
extra cycles its handler returns. -/
def instrCycles (c : Config) (op : Byte) (crossed : Bool) (extra : Nat) : Nat :=
  baseCycles c op + (if pageCrossExtra op && crossed then 1 else 0) + extra

/-- The end of a legal instruction: report its cycles and go on. -/
def retire (op : Byte) (crossed : Bool) (extra : Nat) (s : State) : Result :=
  .next (s.addCycles (instrCycles s.cfg op crossed extra))

/-! ### Entering a handler and returning (R205, R236, R239) -/

/-- The vector of NMI (R232). -/
def nmiVector : Word := 0xFFFA

/-- The vector of RESET (R232). -/
def resetVector : Word := 0xFFFC

/-- The vector IRQ and BRK share (R232). -/
def irqVector : Word := 0xFFFE

/-- `InterruptEntry(vector, b)` (R236), the one entry sequence, shared by NMI, IRQ and BRK. -/
def interruptEntry (vector : Word) (b : Bool) (s : State) : State :=
  let s1 := push16 s.pc s
  let s2 := push8 (s1.p.pushed b) s1
  let s3 := s2.setP { s2.p with b := false, i := true }
  let v := read16 vector s3
  v.2.setPc v.1

/-- The effect of RTI (R205): pull P, then PC; B becomes 0 and bit 5 stays 1. -/
def returnFromInterrupt (s : State) : State :=
  let v := pull8 s
  let r := pull16 (v.2.setP (Status.ofPulled v.1))
  r.2.setPc r.1

end Sys2Proof.Machine
end

