-- ==== Sys2Proof/Machine/Operands.lean ====
section
/-! DEFINITION. Addressing-mode resolution (R100 to R118): every operand form, after its operand bytes are fetched. -/

namespace Sys2Proof.Machine

/-- A memory operand: one of the modes that resolve to an address (R106 to R114), with its operand bytes. -/
inductive MemOperand where
  | zeroPage (zp : Byte)
  | zeroPageX (zp : Byte)
  | zeroPageY (zp : Byte)
  | absolute (addr : Word)
  | absoluteX (addr : Word)
  | absoluteY (addr : Word)
  | indirect (ptr : Word)
  | indirectX (zp : Byte)
  | indirectY (zp : Byte)
  deriving DecidableEq, Repr

/-- The operand of an instruction that reads one byte: an immediate byte (R105) or a memory operand. -/
inductive ReadOperand where
  | immediate (v : Byte)
  | memory (o : MemOperand)
  deriving DecidableEq, Repr

/-- What `Resolve` returns for a memory operand (R100), and the state after its pointer reads. -/
structure Resolved where
  addr : Word
  crossed : Bool
  after : State
  deriving DecidableEq, Repr

/-- `PageCrossed(base, addr)` (R102). -/
def pageCrossed (base addr : Word) : Bool := hi8 base != hi8 addr

/-- An indexed 16-bit address (R110, R111, R114): the sum wraps mod 65536. -/
def indexed (base : Word) (index : Byte) (s : State) : Resolved :=
  { addr := base + zext16 index, crossed := pageCrossed base (base + zext16 index), after := s }

/-- Where the high byte of the pointer of JMP (indirect) is read (R112). -/
def indirectHighAddr (c : Config) (ptr : Word) : Word :=
  if c.jmpIndirectPageWrap then join (hi8 ptr) (lo8 ptr + 1) else ptr + 1

/-- A pointer in page 0, its high byte's address wrapping in page 0 (R113, R114). -/
def zeroPagePointer (p : Byte) (s : State) : Word × State := read16At (zext16 p) (zext16 (p + 1)) s

/-- `Resolve(mode)` of the memory modes (R106 to R114). -/
def resolve (o : MemOperand) (s : State) : Resolved :=
  match o with
  | .zeroPage zp => { addr := zext16 zp, crossed := false, after := s }
  | .zeroPageX zp => { addr := zext16 (zp + s.x), crossed := false, after := s }
  | .zeroPageY zp => { addr := zext16 (zp + s.y), crossed := false, after := s }
  | .absolute addr => { addr := addr, crossed := false, after := s }
  | .absoluteX addr => indexed addr s.x s
  | .absoluteY addr => indexed addr s.y s
  | .indirect ptr =>
    let r := read16At ptr (indirectHighAddr s.cfg ptr) s
    { addr := r.1, crossed := false, after := r.2 }
  | .indirectX zp =>
    let r := zeroPagePointer (zp + s.x) s
    { addr := r.1, crossed := false, after := r.2 }
  | .indirectY zp =>
    let r := zeroPagePointer zp s
    indexed r.1 s.y r.2

/-- What a reading instruction has in hand before it computes: the byte, the page-cross result, and the state after the
reads (R100, R105). -/
structure Fetched where
  value : Byte
  crossed : Bool
  after : State
  deriving DecidableEq, Repr

/-- `(mode == Immediate) ? operand : Read8(operand)`, the first line of every reading handler (R121, R141, R143, R161). -/
def readOperand (o : ReadOperand) (s : State) : Fetched :=
  match o with
  | .immediate v => { value := v, crossed := false, after := s }
  | .memory m =>
    let e := resolve m s
    let r := read8 e.addr e.after
    { value := r.1, crossed := e.crossed, after := r.2 }

/-- `Resolve(Relative)` (R115): the target, from PC past the branch instruction. -/
def branchTarget (rel : Byte) (s : State) : Word := s.pc + sext16 rel

/-- The page-cross result of `Resolve(Relative)` (R115): the baseline is PC past the branch instruction. -/
def branchCrossed (rel : Byte) (s : State) : Bool := pageCrossed s.pc (branchTarget rel s)

end Sys2Proof.Machine
end

