-- ==== Sys2Proof/Machine/Arithmetic.lean ====
section
/-! DEFINITION. Arithmetic, compare, increment and decrement instructions (R140 to R154). -/

namespace Sys2Proof.Machine

/-- The end of ADC and SBC: A, C, V, Z and N from the adder's result (R141, R142). -/
def finishAdd (op : Byte) (crossed : Bool) (r : AluResult) (s : State) : Result :=
  retire op crossed 0 ((s.setA r.value).setP (Status.setZN r.value { s.p with c := r.carry, v := r.overflow }))

/-- ADC (R141). -/
def adc (op : Byte) (o : ReadOperand) (s : State) : Result :=
  let f := readOperand o s
  finishAdd op f.crossed (aluAdd s.a f.value s.p.c) f.after

/-- SBC (R142). -/
def sbc (op : Byte) (o : ReadOperand) (s : State) : Result :=
  let f := readOperand o s
  finishAdd op f.crossed (aluSub s.a f.value s.p.c) f.after

/-- A compare of a register's value with the operand byte (R143). -/
def compareWith (op : Byte) (reg : Byte) (o : ReadOperand) (s : State) : Result :=
  let f := readOperand o s
  retire op f.crossed 0 (f.after.setP (Status.compare reg f.value s.p))

/-- CMP (R143). -/
def cmpA (op : Byte) (o : ReadOperand) (s : State) : Result := compareWith op s.a o s

/-- CPX (R144). -/
def cmpX (op : Byte) (o : ReadOperand) (s : State) : Result := compareWith op s.x o s

/-- CPY (R145). -/
def cmpY (op : Byte) (o : ReadOperand) (s : State) : Result := compareWith op s.y o s

/-- INC (R146): one read, one write, same address. -/
def incMem (op : Byte) (o : MemOperand) (s : State) : Result :=
  let e := resolve o s
  let r := read8 e.addr e.after
  retire op e.crossed 0 ((write8 e.addr (r.1 + 1) r.2).setZN (r.1 + 1))

/-- DEC (R149): one read, one write, same address. -/
def decMem (op : Byte) (o : MemOperand) (s : State) : Result :=
  let e := resolve o s
  let r := read8 e.addr e.after
  retire op e.crossed 0 ((write8 e.addr (r.1 - 1) r.2).setZN (r.1 - 1))

/-- ADC Immediate, 0x69 (R141, R105). -/
def execAdcImm (v : Byte) (s : State) : Result :=
  adc 0x69 (.immediate v) s

/-- ADC ZeroPage, 0x65 (R141, R106). -/
def execAdcZp (zp : Byte) (s : State) : Result :=
  adc 0x65 (.memory (.zeroPage zp)) s

/-- ADC ZeroPageX, 0x75 (R141, R107). -/
def execAdcZpX (zp : Byte) (s : State) : Result :=
  adc 0x75 (.memory (.zeroPageX zp)) s

/-- ADC Absolute, 0x6D (R141, R109). -/
def execAdcAbs (addr : Word) (s : State) : Result :=
  adc 0x6D (.memory (.absolute addr)) s

/-- ADC AbsoluteX, 0x7D (R141, R110). -/
def execAdcAbsX (addr : Word) (s : State) : Result :=
  adc 0x7D (.memory (.absoluteX addr)) s

/-- ADC AbsoluteY, 0x79 (R141, R111). -/
def execAdcAbsY (addr : Word) (s : State) : Result :=
  adc 0x79 (.memory (.absoluteY addr)) s

/-- ADC IndirectX, 0x61 (R141, R113). -/
def execAdcIndX (zp : Byte) (s : State) : Result :=
  adc 0x61 (.memory (.indirectX zp)) s

/-- ADC IndirectY, 0x71 (R141, R114). -/
def execAdcIndY (zp : Byte) (s : State) : Result :=
  adc 0x71 (.memory (.indirectY zp)) s

/-- SBC Immediate, 0xE9 (R142, R105). -/
def execSbcImm (v : Byte) (s : State) : Result :=
  sbc 0xE9 (.immediate v) s

/-- SBC ZeroPage, 0xE5 (R142, R106). -/
def execSbcZp (zp : Byte) (s : State) : Result :=
  sbc 0xE5 (.memory (.zeroPage zp)) s

/-- SBC ZeroPageX, 0xF5 (R142, R107). -/
def execSbcZpX (zp : Byte) (s : State) : Result :=
  sbc 0xF5 (.memory (.zeroPageX zp)) s

/-- SBC Absolute, 0xED (R142, R109). -/
def execSbcAbs (addr : Word) (s : State) : Result :=
  sbc 0xED (.memory (.absolute addr)) s

/-- SBC AbsoluteX, 0xFD (R142, R110). -/
def execSbcAbsX (addr : Word) (s : State) : Result :=
  sbc 0xFD (.memory (.absoluteX addr)) s

/-- SBC AbsoluteY, 0xF9 (R142, R111). -/
def execSbcAbsY (addr : Word) (s : State) : Result :=
  sbc 0xF9 (.memory (.absoluteY addr)) s

/-- SBC IndirectX, 0xE1 (R142, R113). -/
def execSbcIndX (zp : Byte) (s : State) : Result :=
  sbc 0xE1 (.memory (.indirectX zp)) s

/-- SBC IndirectY, 0xF1 (R142, R114). -/
def execSbcIndY (zp : Byte) (s : State) : Result :=
  sbc 0xF1 (.memory (.indirectY zp)) s

/-- CMP Immediate, 0xC9 (R143, R105). -/
def execCmpImm (v : Byte) (s : State) : Result :=
  cmpA 0xC9 (.immediate v) s

/-- CMP ZeroPage, 0xC5 (R143, R106). -/
def execCmpZp (zp : Byte) (s : State) : Result :=
  cmpA 0xC5 (.memory (.zeroPage zp)) s

/-- CMP ZeroPageX, 0xD5 (R143, R107). -/
def execCmpZpX (zp : Byte) (s : State) : Result :=
  cmpA 0xD5 (.memory (.zeroPageX zp)) s

/-- CMP Absolute, 0xCD (R143, R109). -/
def execCmpAbs (addr : Word) (s : State) : Result :=
  cmpA 0xCD (.memory (.absolute addr)) s

/-- CMP AbsoluteX, 0xDD (R143, R110). -/
def execCmpAbsX (addr : Word) (s : State) : Result :=
  cmpA 0xDD (.memory (.absoluteX addr)) s

/-- CMP AbsoluteY, 0xD9 (R143, R111). -/
def execCmpAbsY (addr : Word) (s : State) : Result :=
  cmpA 0xD9 (.memory (.absoluteY addr)) s

/-- CMP IndirectX, 0xC1 (R143, R113). -/
def execCmpIndX (zp : Byte) (s : State) : Result :=
  cmpA 0xC1 (.memory (.indirectX zp)) s

/-- CMP IndirectY, 0xD1 (R143, R114). -/
def execCmpIndY (zp : Byte) (s : State) : Result :=
  cmpA 0xD1 (.memory (.indirectY zp)) s

/-- CPX Immediate, 0xE0 (R144, R105). -/
def execCpxImm (v : Byte) (s : State) : Result :=
  cmpX 0xE0 (.immediate v) s

/-- CPX ZeroPage, 0xE4 (R144, R106). -/
def execCpxZp (zp : Byte) (s : State) : Result :=
  cmpX 0xE4 (.memory (.zeroPage zp)) s

/-- CPX Absolute, 0xEC (R144, R109). -/
def execCpxAbs (addr : Word) (s : State) : Result :=
  cmpX 0xEC (.memory (.absolute addr)) s

/-- CPY Immediate, 0xC0 (R145, R105). -/
def execCpyImm (v : Byte) (s : State) : Result :=
  cmpY 0xC0 (.immediate v) s

/-- CPY ZeroPage, 0xC4 (R145, R106). -/
def execCpyZp (zp : Byte) (s : State) : Result :=
  cmpY 0xC4 (.memory (.zeroPage zp)) s

/-- CPY Absolute, 0xCC (R145, R109). -/
def execCpyAbs (addr : Word) (s : State) : Result :=
  cmpY 0xCC (.memory (.absolute addr)) s

/-- INC ZeroPage, 0xE6 (R146, R106). -/
def execIncZp (zp : Byte) (s : State) : Result :=
  incMem 0xE6 (.zeroPage zp) s

/-- INC ZeroPageX, 0xF6 (R146, R107). -/
def execIncZpX (zp : Byte) (s : State) : Result :=
  incMem 0xF6 (.zeroPageX zp) s

/-- INC Absolute, 0xEE (R146, R109). -/
def execIncAbs (addr : Word) (s : State) : Result :=
  incMem 0xEE (.absolute addr) s

/-- INC AbsoluteX, 0xFE (R146, R110). -/
def execIncAbsX (addr : Word) (s : State) : Result :=
  incMem 0xFE (.absoluteX addr) s

/-- INX Implicit, 0xE8 (R147, R103). -/
def execInx (s : State) : Result :=
  retire 0xE8 false 0 ((s.setX (s.x + 1)).setZN (s.x + 1))

/-- INY Implicit, 0xC8 (R148, R103). -/
def execIny (s : State) : Result :=
  retire 0xC8 false 0 ((s.setY (s.y + 1)).setZN (s.y + 1))

/-- DEC ZeroPage, 0xC6 (R149, R106). -/
def execDecZp (zp : Byte) (s : State) : Result :=
  decMem 0xC6 (.zeroPage zp) s

/-- DEC ZeroPageX, 0xD6 (R149, R107). -/
def execDecZpX (zp : Byte) (s : State) : Result :=
  decMem 0xD6 (.zeroPageX zp) s

/-- DEC Absolute, 0xCE (R149, R109). -/
def execDecAbs (addr : Word) (s : State) : Result :=
  decMem 0xCE (.absolute addr) s

/-- DEC AbsoluteX, 0xDE (R149, R110). -/
def execDecAbsX (addr : Word) (s : State) : Result :=
  decMem 0xDE (.absoluteX addr) s

/-- DEX Implicit, 0xCA (R150, R103). -/
def execDex (s : State) : Result :=
  retire 0xCA false 0 ((s.setX (s.x - 1)).setZN (s.x - 1))

/-- DEY Implicit, 0x88 (R151, R103). -/
def execDey (s : State) : Result :=
  retire 0x88 false 0 ((s.setY (s.y - 1)).setZN (s.y - 1))

end Sys2Proof.Machine
end

