-- ==== Sys2Proof/Machine/Control.lean ====
section
/-! DEFINITION. Control-transfer instructions (R200 to R218). Each handler sees PC at the next sequential instruction (R24). -/

namespace Sys2Proof.Machine

/-- `Branch(cond, target, crossed)` (R206): the extra cycles are charged when the branch is taken. -/
def branch (op : Byte) (cond : Bool) (rel : Byte) (s : State) : Result :=
  if cond then retire op false (if branchCrossed rel s then 2 else 1) (s.setPc (branchTarget rel s))
  else retire op false 0 s

/-- JMP (R201): the resolved address is the target itself. -/
def jump (op : Byte) (o : MemOperand) (s : State) : Result :=
  let e := resolve o s
  retire op e.crossed 0 (e.after.setPc e.addr)

/-- JSR's effect (R202): push the address of its own last byte, then go to the target. -/
def callSubroutine (target : Word) (s : State) : State := (push16 (s.pc - 1) s).setPc target

/-- RTS's effect (R203). -/
def returnFromSubroutine (s : State) : State :=
  let r := pull16 s
  r.2.setPc (r.1 + 1)

/-- BRK's effect (R204): push the address of the opcode plus BRK_PC_PUSH_OFFSET, and enter through the IRQ/BRK vector. -/
def softwareInterrupt (s : State) : State :=
  interruptEntry irqVector true (s.setPc (s.pc + BitVec.ofNat 16 s.cfg.brkPcPushOffset - 1))

/-- JMP Absolute, 0x4C (R201, R109). -/
def execJmpAbs (addr : Word) (s : State) : Result :=
  jump 0x4C (.absolute addr) s

/-- JMP Indirect, 0x6C (R201, R112). -/
def execJmpInd (ptr : Word) (s : State) : Result :=
  jump 0x6C (.indirect ptr) s

/-- JSR Absolute, 0x20 (R202, R109). -/
def execJsrAbs (addr : Word) (s : State) : Result :=
  retire 0x20 false 0 (callSubroutine addr s)

/-- RTS Implicit, 0x60 (R203, R103). -/
def execRts (s : State) : Result :=
  retire 0x60 false 0 (returnFromSubroutine s)

/-- BRK Implicit, 0x00 (R204, R103). -/
def execBrk (s : State) : Result :=
  retire 0x00 false 0 (softwareInterrupt s)

/-- RTI Implicit, 0x40 (R205, R103). -/
def execRti (s : State) : Result :=
  retire 0x40 false 0 (returnFromInterrupt s)

/-- BCC Relative, 0x90 (R207, R115). -/
def execBcc (rel : Byte) (s : State) : Result :=
  branch 0x90 (!s.p.c) rel s

/-- BCS Relative, 0xB0 (R208, R115). -/
def execBcs (rel : Byte) (s : State) : Result :=
  branch 0xB0 (s.p.c) rel s

/-- BEQ Relative, 0xF0 (R209, R115). -/
def execBeq (rel : Byte) (s : State) : Result :=
  branch 0xF0 (s.p.z) rel s

/-- BNE Relative, 0xD0 (R210, R115). -/
def execBne (rel : Byte) (s : State) : Result :=
  branch 0xD0 (!s.p.z) rel s

/-- BMI Relative, 0x30 (R211, R115). -/
def execBmi (rel : Byte) (s : State) : Result :=
  branch 0x30 (s.p.n) rel s

/-- BPL Relative, 0x10 (R212, R115). -/
def execBpl (rel : Byte) (s : State) : Result :=
  branch 0x10 (!s.p.n) rel s

/-- BVC Relative, 0x50 (R213, R115). -/
def execBvc (rel : Byte) (s : State) : Result :=
  branch 0x50 (!s.p.v) rel s

/-- BVS Relative, 0x70 (R214, R115). -/
def execBvs (rel : Byte) (s : State) : Result :=
  branch 0x70 (s.p.v) rel s

end Sys2Proof.Machine
end

