-- ==== Sys2Proof/Machine/Illegal.lean ====
section
/-! DEFINITION. The fallback Operation of the 105 illegal opcodes (R90). -/

namespace Sys2Proof.Machine

/-- IllegalFallback (R90): an inert multi-byte NOP. PC, which is past the opcode byte, passes ILLEGAL_OPERAND_BYTES more
bytes, which are not read; the cost is ILLEGAL_CYCLES. Nothing depends on which illegal opcode it is. -/
def execIll (_opcode : Byte) (s : State) : Result :=
  .next ((s.setPc (s.pc + BitVec.ofNat 16 s.cfg.illegalOperandBytes)).addCycles s.cfg.illegalCycles)

end Sys2Proof.Machine
end

