-- ==== Sys2Proof/Machine/LoadStore.lean ====
section
/-! DEFINITION. Loads, stores and register transfers (R120 to R133). -/

namespace Sys2Proof.Machine

/-- LDA (R121): A and Z, N from the operand byte. -/
def loadA (op : Byte) (o : ReadOperand) (s : State) : Result :=
  let f := readOperand o s
  retire op f.crossed 0 ((f.after.setA f.value).setZN f.value)

/-- LDX (R122). -/
def loadX (op : Byte) (o : ReadOperand) (s : State) : Result :=
  let f := readOperand o s
  retire op f.crossed 0 ((f.after.setX f.value).setZN f.value)

/-- LDY (R123). -/
def loadY (op : Byte) (o : ReadOperand) (s : State) : Result :=
  let f := readOperand o s
  retire op f.crossed 0 ((f.after.setY f.value).setZN f.value)

/-- A store (R120): one write at the effective address and no data read. -/
def store (op : Byte) (v : Byte) (o : MemOperand) (s : State) : Result :=
  let e := resolve o s
  retire op e.crossed 0 (write8 e.addr v e.after)

/-- STA (R124). -/
def storeA (op : Byte) (o : MemOperand) (s : State) : Result := store op s.a o s

/-- STX (R125). -/
def storeX (op : Byte) (o : MemOperand) (s : State) : Result := store op s.x o s

/-- STY (R126). -/
def storeY (op : Byte) (o : MemOperand) (s : State) : Result := store op s.y o s

/-- LDA Immediate, 0xA9 (R121, R105). -/
def execLdaImm (v : Byte) (s : State) : Result :=
  loadA 0xA9 (.immediate v) s

/-- LDA ZeroPage, 0xA5 (R121, R106). -/
def execLdaZp (zp : Byte) (s : State) : Result :=
  loadA 0xA5 (.memory (.zeroPage zp)) s

/-- LDA ZeroPageX, 0xB5 (R121, R107). -/
def execLdaZpX (zp : Byte) (s : State) : Result :=
  loadA 0xB5 (.memory (.zeroPageX zp)) s

/-- LDA Absolute, 0xAD (R121, R109). -/
def execLdaAbs (addr : Word) (s : State) : Result :=
  loadA 0xAD (.memory (.absolute addr)) s

/-- LDA AbsoluteX, 0xBD (R121, R110). -/
def execLdaAbsX (addr : Word) (s : State) : Result :=
  loadA 0xBD (.memory (.absoluteX addr)) s

/-- LDA AbsoluteY, 0xB9 (R121, R111). -/
def execLdaAbsY (addr : Word) (s : State) : Result :=
  loadA 0xB9 (.memory (.absoluteY addr)) s

/-- LDA IndirectX, 0xA1 (R121, R113). -/
def execLdaIndX (zp : Byte) (s : State) : Result :=
  loadA 0xA1 (.memory (.indirectX zp)) s

/-- LDA IndirectY, 0xB1 (R121, R114). -/
def execLdaIndY (zp : Byte) (s : State) : Result :=
  loadA 0xB1 (.memory (.indirectY zp)) s

/-- LDX Immediate, 0xA2 (R122, R105). -/
def execLdxImm (v : Byte) (s : State) : Result :=
  loadX 0xA2 (.immediate v) s

/-- LDX ZeroPage, 0xA6 (R122, R106). -/
def execLdxZp (zp : Byte) (s : State) : Result :=
  loadX 0xA6 (.memory (.zeroPage zp)) s

/-- LDX ZeroPageY, 0xB6 (R122, R108). -/
def execLdxZpY (zp : Byte) (s : State) : Result :=
  loadX 0xB6 (.memory (.zeroPageY zp)) s

/-- LDX Absolute, 0xAE (R122, R109). -/
def execLdxAbs (addr : Word) (s : State) : Result :=
  loadX 0xAE (.memory (.absolute addr)) s

/-- LDX AbsoluteY, 0xBE (R122, R111). -/
def execLdxAbsY (addr : Word) (s : State) : Result :=
  loadX 0xBE (.memory (.absoluteY addr)) s

/-- LDY Immediate, 0xA0 (R123, R105). -/
def execLdyImm (v : Byte) (s : State) : Result :=
  loadY 0xA0 (.immediate v) s

/-- LDY ZeroPage, 0xA4 (R123, R106). -/
def execLdyZp (zp : Byte) (s : State) : Result :=
  loadY 0xA4 (.memory (.zeroPage zp)) s

/-- LDY ZeroPageX, 0xB4 (R123, R107). -/
def execLdyZpX (zp : Byte) (s : State) : Result :=
  loadY 0xB4 (.memory (.zeroPageX zp)) s

/-- LDY Absolute, 0xAC (R123, R109). -/
def execLdyAbs (addr : Word) (s : State) : Result :=
  loadY 0xAC (.memory (.absolute addr)) s

/-- LDY AbsoluteX, 0xBC (R123, R110). -/
def execLdyAbsX (addr : Word) (s : State) : Result :=
  loadY 0xBC (.memory (.absoluteX addr)) s

/-- STA ZeroPage, 0x85 (R124, R106). -/
def execStaZp (zp : Byte) (s : State) : Result :=
  storeA 0x85 (.zeroPage zp) s

/-- STA ZeroPageX, 0x95 (R124, R107). -/
def execStaZpX (zp : Byte) (s : State) : Result :=
  storeA 0x95 (.zeroPageX zp) s

/-- STA Absolute, 0x8D (R124, R109). -/
def execStaAbs (addr : Word) (s : State) : Result :=
  storeA 0x8D (.absolute addr) s

/-- STA AbsoluteX, 0x9D (R124, R110). -/
def execStaAbsX (addr : Word) (s : State) : Result :=
  storeA 0x9D (.absoluteX addr) s

/-- STA AbsoluteY, 0x99 (R124, R111). -/
def execStaAbsY (addr : Word) (s : State) : Result :=
  storeA 0x99 (.absoluteY addr) s

/-- STA IndirectX, 0x81 (R124, R113). -/
def execStaIndX (zp : Byte) (s : State) : Result :=
  storeA 0x81 (.indirectX zp) s

/-- STA IndirectY, 0x91 (R124, R114). -/
def execStaIndY (zp : Byte) (s : State) : Result :=
  storeA 0x91 (.indirectY zp) s

/-- STX ZeroPage, 0x86 (R125, R106). -/
def execStxZp (zp : Byte) (s : State) : Result :=
  storeX 0x86 (.zeroPage zp) s

/-- STX ZeroPageY, 0x96 (R125, R108). -/
def execStxZpY (zp : Byte) (s : State) : Result :=
  storeX 0x96 (.zeroPageY zp) s

/-- STX Absolute, 0x8E (R125, R109). -/
def execStxAbs (addr : Word) (s : State) : Result :=
  storeX 0x8E (.absolute addr) s

/-- STY ZeroPage, 0x84 (R126, R106). -/
def execStyZp (zp : Byte) (s : State) : Result :=
  storeY 0x84 (.zeroPage zp) s

/-- STY ZeroPageX, 0x94 (R126, R107). -/
def execStyZpX (zp : Byte) (s : State) : Result :=
  storeY 0x94 (.zeroPageX zp) s

/-- STY Absolute, 0x8C (R126, R109). -/
def execStyAbs (addr : Word) (s : State) : Result :=
  storeY 0x8C (.absolute addr) s

/-- TAX Implicit, 0xAA (R127, R103). -/
def execTax (s : State) : Result :=
  retire 0xAA false 0 ((s.setX s.a).setZN s.a)

/-- TAY Implicit, 0xA8 (R128, R103). -/
def execTay (s : State) : Result :=
  retire 0xA8 false 0 ((s.setY s.a).setZN s.a)

/-- TXA Implicit, 0x8A (R129, R103). -/
def execTxa (s : State) : Result :=
  retire 0x8A false 0 ((s.setA s.x).setZN s.x)

/-- TYA Implicit, 0x98 (R130, R103). -/
def execTya (s : State) : Result :=
  retire 0x98 false 0 ((s.setA s.y).setZN s.y)

/-- TXS Implicit, 0x9A (R131, R103). -/
def execTxs (s : State) : Result :=
  retire 0x9A false 0 (s.setSp s.x)

/-- TSX Implicit, 0xBA (R132, R103). -/
def execTsx (s : State) : Result :=
  retire 0xBA false 0 ((s.setX s.sp).setZN s.sp)

end Sys2Proof.Machine
end

