-- ==== Sys2Proof/Machine/Logic.lean ====
section
/-! DEFINITION. Logic, bit-test, shift and rotate instructions (R160 to R169). -/

namespace Sys2Proof.Machine

/-- AND (R161). -/
def andA (op : Byte) (o : ReadOperand) (s : State) : Result :=
  let f := readOperand o s
  retire op f.crossed 0 ((f.after.setA (s.a &&& f.value)).setZN (s.a &&& f.value))

/-- ORA (R162). -/
def oraA (op : Byte) (o : ReadOperand) (s : State) : Result :=
  let f := readOperand o s
  retire op f.crossed 0 ((f.after.setA (s.a ||| f.value)).setZN (s.a ||| f.value))

/-- EOR (R163). -/
def eorA (op : Byte) (o : ReadOperand) (s : State) : Result :=
  let f := readOperand o s
  retire op f.crossed 0 ((f.after.setA (s.a ^^^ f.value)).setZN (s.a ^^^ f.value))

/-- BIT (R164): flags only. -/
def bitTest (op : Byte) (o : MemOperand) (s : State) : Result :=
  let f := readOperand (.memory o) s
  retire op f.crossed 0 (f.after.setP (Status.bitTest s.a f.value s.p))

/-- A shift or rotate of A (R165 to R168): no bus access. -/
def shiftA (op : Byte) (f : Byte → Bool → Byte × Bool) (s : State) : Result :=
  let r := f s.a s.p.c
  retire op false 0 ((s.setA r.1).setP (s.p.shifted r))

/-- A shift or rotate of a memory byte (R160, R165 to R168): one read, one write, same address; A is not changed. -/
def shiftMem (op : Byte) (f : Byte → Bool → Byte × Bool) (o : MemOperand) (s : State) : Result :=
  let e := resolve o s
  let m := read8 e.addr e.after
  let r := f m.1 s.p.c
  retire op e.crossed 0 ((write8 e.addr r.1 m.2).setP (s.p.shifted r))

/-- AND Immediate, 0x29 (R161, R105). -/
def execAndImm (v : Byte) (s : State) : Result :=
  andA 0x29 (.immediate v) s

/-- AND ZeroPage, 0x25 (R161, R106). -/
def execAndZp (zp : Byte) (s : State) : Result :=
  andA 0x25 (.memory (.zeroPage zp)) s

/-- AND ZeroPageX, 0x35 (R161, R107). -/
def execAndZpX (zp : Byte) (s : State) : Result :=
  andA 0x35 (.memory (.zeroPageX zp)) s

/-- AND Absolute, 0x2D (R161, R109). -/
def execAndAbs (addr : Word) (s : State) : Result :=
  andA 0x2D (.memory (.absolute addr)) s

/-- AND AbsoluteX, 0x3D (R161, R110). -/
def execAndAbsX (addr : Word) (s : State) : Result :=
  andA 0x3D (.memory (.absoluteX addr)) s

/-- AND AbsoluteY, 0x39 (R161, R111). -/
def execAndAbsY (addr : Word) (s : State) : Result :=
  andA 0x39 (.memory (.absoluteY addr)) s

/-- AND IndirectX, 0x21 (R161, R113). -/
def execAndIndX (zp : Byte) (s : State) : Result :=
  andA 0x21 (.memory (.indirectX zp)) s

/-- AND IndirectY, 0x31 (R161, R114). -/
def execAndIndY (zp : Byte) (s : State) : Result :=
  andA 0x31 (.memory (.indirectY zp)) s

/-- ORA Immediate, 0x09 (R162, R105). -/
def execOraImm (v : Byte) (s : State) : Result :=
  oraA 0x09 (.immediate v) s

/-- ORA ZeroPage, 0x05 (R162, R106). -/
def execOraZp (zp : Byte) (s : State) : Result :=
  oraA 0x05 (.memory (.zeroPage zp)) s

/-- ORA ZeroPageX, 0x15 (R162, R107). -/
def execOraZpX (zp : Byte) (s : State) : Result :=
  oraA 0x15 (.memory (.zeroPageX zp)) s

/-- ORA Absolute, 0x0D (R162, R109). -/
def execOraAbs (addr : Word) (s : State) : Result :=
  oraA 0x0D (.memory (.absolute addr)) s

/-- ORA AbsoluteX, 0x1D (R162, R110). -/
def execOraAbsX (addr : Word) (s : State) : Result :=
  oraA 0x1D (.memory (.absoluteX addr)) s

/-- ORA AbsoluteY, 0x19 (R162, R111). -/
def execOraAbsY (addr : Word) (s : State) : Result :=
  oraA 0x19 (.memory (.absoluteY addr)) s

/-- ORA IndirectX, 0x01 (R162, R113). -/
def execOraIndX (zp : Byte) (s : State) : Result :=
  oraA 0x01 (.memory (.indirectX zp)) s

/-- ORA IndirectY, 0x11 (R162, R114). -/
def execOraIndY (zp : Byte) (s : State) : Result :=
  oraA 0x11 (.memory (.indirectY zp)) s

/-- EOR Immediate, 0x49 (R163, R105). -/
def execEorImm (v : Byte) (s : State) : Result :=
  eorA 0x49 (.immediate v) s

/-- EOR ZeroPage, 0x45 (R163, R106). -/
def execEorZp (zp : Byte) (s : State) : Result :=
  eorA 0x45 (.memory (.zeroPage zp)) s

/-- EOR ZeroPageX, 0x55 (R163, R107). -/
def execEorZpX (zp : Byte) (s : State) : Result :=
  eorA 0x55 (.memory (.zeroPageX zp)) s

/-- EOR Absolute, 0x4D (R163, R109). -/
def execEorAbs (addr : Word) (s : State) : Result :=
  eorA 0x4D (.memory (.absolute addr)) s

/-- EOR AbsoluteX, 0x5D (R163, R110). -/
def execEorAbsX (addr : Word) (s : State) : Result :=
  eorA 0x5D (.memory (.absoluteX addr)) s

/-- EOR AbsoluteY, 0x59 (R163, R111). -/
def execEorAbsY (addr : Word) (s : State) : Result :=
  eorA 0x59 (.memory (.absoluteY addr)) s

/-- EOR IndirectX, 0x41 (R163, R113). -/
def execEorIndX (zp : Byte) (s : State) : Result :=
  eorA 0x41 (.memory (.indirectX zp)) s

/-- EOR IndirectY, 0x51 (R163, R114). -/
def execEorIndY (zp : Byte) (s : State) : Result :=
  eorA 0x51 (.memory (.indirectY zp)) s

/-- BIT ZeroPage, 0x24 (R164, R106). -/
def execBitZp (zp : Byte) (s : State) : Result :=
  bitTest 0x24 (.zeroPage zp) s

/-- BIT Absolute, 0x2C (R164, R109). -/
def execBitAbs (addr : Word) (s : State) : Result :=
  bitTest 0x2C (.absolute addr) s

/-- ASL Accumulator, 0x0A (R165, R104). -/
def execAslA (s : State) : Result :=
  shiftA 0x0A shiftLeft s

/-- ASL ZeroPage, 0x06 (R165, R106). -/
def execAslZp (zp : Byte) (s : State) : Result :=
  shiftMem 0x06 shiftLeft (.zeroPage zp) s

/-- ASL ZeroPageX, 0x16 (R165, R107). -/
def execAslZpX (zp : Byte) (s : State) : Result :=
  shiftMem 0x16 shiftLeft (.zeroPageX zp) s

/-- ASL Absolute, 0x0E (R165, R109). -/
def execAslAbs (addr : Word) (s : State) : Result :=
  shiftMem 0x0E shiftLeft (.absolute addr) s

/-- ASL AbsoluteX, 0x1E (R165, R110). -/
def execAslAbsX (addr : Word) (s : State) : Result :=
  shiftMem 0x1E shiftLeft (.absoluteX addr) s

/-- LSR Accumulator, 0x4A (R166, R104). -/
def execLsrA (s : State) : Result :=
  shiftA 0x4A shiftRight s

/-- LSR ZeroPage, 0x46 (R166, R106). -/
def execLsrZp (zp : Byte) (s : State) : Result :=
  shiftMem 0x46 shiftRight (.zeroPage zp) s

/-- LSR ZeroPageX, 0x56 (R166, R107). -/
def execLsrZpX (zp : Byte) (s : State) : Result :=
  shiftMem 0x56 shiftRight (.zeroPageX zp) s

/-- LSR Absolute, 0x4E (R166, R109). -/
def execLsrAbs (addr : Word) (s : State) : Result :=
  shiftMem 0x4E shiftRight (.absolute addr) s

/-- LSR AbsoluteX, 0x5E (R166, R110). -/
def execLsrAbsX (addr : Word) (s : State) : Result :=
  shiftMem 0x5E shiftRight (.absoluteX addr) s

/-- ROL Accumulator, 0x2A (R167, R104). -/
def execRolA (s : State) : Result :=
  shiftA 0x2A rotateLeft s

/-- ROL ZeroPage, 0x26 (R167, R106). -/
def execRolZp (zp : Byte) (s : State) : Result :=
  shiftMem 0x26 rotateLeft (.zeroPage zp) s

/-- ROL ZeroPageX, 0x36 (R167, R107). -/
def execRolZpX (zp : Byte) (s : State) : Result :=
  shiftMem 0x36 rotateLeft (.zeroPageX zp) s

/-- ROL Absolute, 0x2E (R167, R109). -/
def execRolAbs (addr : Word) (s : State) : Result :=
  shiftMem 0x2E rotateLeft (.absolute addr) s

/-- ROL AbsoluteX, 0x3E (R167, R110). -/
def execRolAbsX (addr : Word) (s : State) : Result :=
  shiftMem 0x3E rotateLeft (.absoluteX addr) s

/-- ROR Accumulator, 0x6A (R168, R104). -/
def execRorA (s : State) : Result :=
  shiftA 0x6A rotateRight s

/-- ROR ZeroPage, 0x66 (R168, R106). -/
def execRorZp (zp : Byte) (s : State) : Result :=
  shiftMem 0x66 rotateRight (.zeroPage zp) s

/-- ROR ZeroPageX, 0x76 (R168, R107). -/
def execRorZpX (zp : Byte) (s : State) : Result :=
  shiftMem 0x76 rotateRight (.zeroPageX zp) s

/-- ROR Absolute, 0x6E (R168, R109). -/
def execRorAbs (addr : Word) (s : State) : Result :=
  shiftMem 0x6E rotateRight (.absolute addr) s

/-- ROR AbsoluteX, 0x7E (R168, R110). -/
def execRorAbsX (addr : Word) (s : State) : Result :=
  shiftMem 0x7E rotateRight (.absoluteX addr) s

end Sys2Proof.Machine
end

