-- ==== Sys2Proof/Machine/StackFlags.lean ====
section
/-! DEFINITION. Stack, flag and no-operation instructions (R180 to R194). -/

namespace Sys2Proof.Machine

/-- PLA's effect (R183): A and Z, N from the pulled byte. -/
def pullA (s : State) : State :=
  let v := pull8 s
  (v.2.setA v.1).setZN v.1

/-- PLP's effect (R184): P from the pulled byte, B 0, bit 5 still 1. -/
def pullP (s : State) : State :=
  let v := pull8 s
  v.2.setP (Status.ofPulled v.1)

/-- PHA Implicit, 0x48 (R181, R103). -/
def execPha (s : State) : Result :=
  retire 0x48 false 0 (push8 s.a s)

/-- PHP Implicit, 0x08 (R182, R103). -/
def execPhp (s : State) : Result :=
  retire 0x08 false 0 (push8 (s.p.pushed true) s)

/-- PLA Implicit, 0x68 (R183, R103). -/
def execPla (s : State) : Result :=
  retire 0x68 false 0 (pullA s)

/-- PLP Implicit, 0x28 (R184, R103). -/
def execPlp (s : State) : Result :=
  retire 0x28 false 0 (pullP s)

/-- CLC Implicit, 0x18 (R185, R103). -/
def execClc (s : State) : Result :=
  retire 0x18 false 0 (s.setP { s.p with c := false })

/-- SEC Implicit, 0x38 (R186, R103). -/
def execSec (s : State) : Result :=
  retire 0x38 false 0 (s.setP { s.p with c := true })

/-- CLI Implicit, 0x58 (R187, R103). -/
def execCli (s : State) : Result :=
  retire 0x58 false 0 (s.setP { s.p with i := false })

/-- SEI Implicit, 0x78 (R188, R103). -/
def execSei (s : State) : Result :=
  retire 0x78 false 0 (s.setP { s.p with i := true })

/-- CLV Implicit, 0xB8 (R189, R103). -/
def execClv (s : State) : Result :=
  retire 0xB8 false 0 (s.setP { s.p with v := false })

/-- CLD Implicit, 0xD8 (R190, R103). -/
def execCld (s : State) : Result :=
  retire 0xD8 false 0 (s.setP { s.p with d := false })

/-- SED Implicit, 0xF8 (R191, R103). -/
def execSed (s : State) : Result :=
  retire 0xF8 false 0 (s.setP { s.p with d := true })

/-- NOP Implicit, 0xEA (R192, R103). -/
def execNop (s : State) : Result :=
  retire 0xEA false 0 s

end Sys2Proof.Machine
end

