-- ==== Sys2Proof/Syntax.lean ====
section
/-! DEFINITION. The instructions: one constructor for each legal row of the opcode table (R85), named by mnemonic and
addressing mode, with its operand as the encoding holds it (R83); and one for the fallback Operation to which R90 binds
the 105 illegal rows. -/

namespace Sys2Proof

/-- An instruction. A constructor's operand is what `Resolve` starts from (R83): the immediate byte `v`, the zero-page
byte `zp`, the 16-bit `addr` or `ptr` (low byte first in the encoding), or the displacement byte `rel`. -/
inductive Instr where
  /-- LDA Immediate, 0xA9 (R121). -/
  | ldaImm (v : Byte)
  /-- LDA ZeroPage, 0xA5 (R121). -/
  | ldaZp (zp : Byte)
  /-- LDA ZeroPageX, 0xB5 (R121). -/
  | ldaZpX (zp : Byte)
  /-- LDA Absolute, 0xAD (R121). -/
  | ldaAbs (addr : Word)
  /-- LDA AbsoluteX, 0xBD (R121). -/
  | ldaAbsX (addr : Word)
  /-- LDA AbsoluteY, 0xB9 (R121). -/
  | ldaAbsY (addr : Word)
  /-- LDA IndirectX, 0xA1 (R121). -/
  | ldaIndX (zp : Byte)
  /-- LDA IndirectY, 0xB1 (R121). -/
  | ldaIndY (zp : Byte)
  /-- LDX Immediate, 0xA2 (R122). -/
  | ldxImm (v : Byte)
  /-- LDX ZeroPage, 0xA6 (R122). -/
  | ldxZp (zp : Byte)
  /-- LDX ZeroPageY, 0xB6 (R122). -/
  | ldxZpY (zp : Byte)
  /-- LDX Absolute, 0xAE (R122). -/
  | ldxAbs (addr : Word)
  /-- LDX AbsoluteY, 0xBE (R122). -/
  | ldxAbsY (addr : Word)
  /-- LDY Immediate, 0xA0 (R123). -/
  | ldyImm (v : Byte)
  /-- LDY ZeroPage, 0xA4 (R123). -/
  | ldyZp (zp : Byte)
  /-- LDY ZeroPageX, 0xB4 (R123). -/
  | ldyZpX (zp : Byte)
  /-- LDY Absolute, 0xAC (R123). -/
  | ldyAbs (addr : Word)
  /-- LDY AbsoluteX, 0xBC (R123). -/
  | ldyAbsX (addr : Word)
  /-- STA ZeroPage, 0x85 (R124). -/
  | staZp (zp : Byte)
  /-- STA ZeroPageX, 0x95 (R124). -/
  | staZpX (zp : Byte)
  /-- STA Absolute, 0x8D (R124). -/
  | staAbs (addr : Word)
  /-- STA AbsoluteX, 0x9D (R124). -/
  | staAbsX (addr : Word)
  /-- STA AbsoluteY, 0x99 (R124). -/
  | staAbsY (addr : Word)
  /-- STA IndirectX, 0x81 (R124). -/
  | staIndX (zp : Byte)
  /-- STA IndirectY, 0x91 (R124). -/
  | staIndY (zp : Byte)
  /-- STX ZeroPage, 0x86 (R125). -/
  | stxZp (zp : Byte)
  /-- STX ZeroPageY, 0x96 (R125). -/
  | stxZpY (zp : Byte)
  /-- STX Absolute, 0x8E (R125). -/
  | stxAbs (addr : Word)
  /-- STY ZeroPage, 0x84 (R126). -/
  | styZp (zp : Byte)
  /-- STY ZeroPageX, 0x94 (R126). -/
  | styZpX (zp : Byte)
  /-- STY Absolute, 0x8C (R126). -/
  | styAbs (addr : Word)
  /-- TAX Implicit, 0xAA (R127). -/
  | tax
  /-- TAY Implicit, 0xA8 (R128). -/
  | tay
  /-- TXA Implicit, 0x8A (R129). -/
  | txa
  /-- TYA Implicit, 0x98 (R130). -/
  | tya
  /-- TXS Implicit, 0x9A (R131). -/
  | txs
  /-- TSX Implicit, 0xBA (R132). -/
  | tsx
  /-- ADC Immediate, 0x69 (R141). -/
  | adcImm (v : Byte)
  /-- ADC ZeroPage, 0x65 (R141). -/
  | adcZp (zp : Byte)
  /-- ADC ZeroPageX, 0x75 (R141). -/
  | adcZpX (zp : Byte)
  /-- ADC Absolute, 0x6D (R141). -/
  | adcAbs (addr : Word)
  /-- ADC AbsoluteX, 0x7D (R141). -/
  | adcAbsX (addr : Word)
  /-- ADC AbsoluteY, 0x79 (R141). -/
  | adcAbsY (addr : Word)
  /-- ADC IndirectX, 0x61 (R141). -/
  | adcIndX (zp : Byte)
  /-- ADC IndirectY, 0x71 (R141). -/
  | adcIndY (zp : Byte)
  /-- SBC Immediate, 0xE9 (R142). -/
  | sbcImm (v : Byte)
  /-- SBC ZeroPage, 0xE5 (R142). -/
  | sbcZp (zp : Byte)
  /-- SBC ZeroPageX, 0xF5 (R142). -/
  | sbcZpX (zp : Byte)
  /-- SBC Absolute, 0xED (R142). -/
  | sbcAbs (addr : Word)
  /-- SBC AbsoluteX, 0xFD (R142). -/
  | sbcAbsX (addr : Word)
  /-- SBC AbsoluteY, 0xF9 (R142). -/
  | sbcAbsY (addr : Word)
  /-- SBC IndirectX, 0xE1 (R142). -/
  | sbcIndX (zp : Byte)
  /-- SBC IndirectY, 0xF1 (R142). -/
  | sbcIndY (zp : Byte)
  /-- CMP Immediate, 0xC9 (R143). -/
  | cmpImm (v : Byte)
  /-- CMP ZeroPage, 0xC5 (R143). -/
  | cmpZp (zp : Byte)
  /-- CMP ZeroPageX, 0xD5 (R143). -/
  | cmpZpX (zp : Byte)
  /-- CMP Absolute, 0xCD (R143). -/
  | cmpAbs (addr : Word)
  /-- CMP AbsoluteX, 0xDD (R143). -/
  | cmpAbsX (addr : Word)
  /-- CMP AbsoluteY, 0xD9 (R143). -/
  | cmpAbsY (addr : Word)
  /-- CMP IndirectX, 0xC1 (R143). -/
  | cmpIndX (zp : Byte)
  /-- CMP IndirectY, 0xD1 (R143). -/
  | cmpIndY (zp : Byte)
  /-- CPX Immediate, 0xE0 (R144). -/
  | cpxImm (v : Byte)
  /-- CPX ZeroPage, 0xE4 (R144). -/
  | cpxZp (zp : Byte)
  /-- CPX Absolute, 0xEC (R144). -/
  | cpxAbs (addr : Word)
  /-- CPY Immediate, 0xC0 (R145). -/
  | cpyImm (v : Byte)
  /-- CPY ZeroPage, 0xC4 (R145). -/
  | cpyZp (zp : Byte)
  /-- CPY Absolute, 0xCC (R145). -/
  | cpyAbs (addr : Word)
  /-- INC ZeroPage, 0xE6 (R146). -/
  | incZp (zp : Byte)
  /-- INC ZeroPageX, 0xF6 (R146). -/
  | incZpX (zp : Byte)
  /-- INC Absolute, 0xEE (R146). -/
  | incAbs (addr : Word)
  /-- INC AbsoluteX, 0xFE (R146). -/
  | incAbsX (addr : Word)
  /-- INX Implicit, 0xE8 (R147). -/
  | inx
  /-- INY Implicit, 0xC8 (R148). -/
  | iny
  /-- DEC ZeroPage, 0xC6 (R149). -/
  | decZp (zp : Byte)
  /-- DEC ZeroPageX, 0xD6 (R149). -/
  | decZpX (zp : Byte)
  /-- DEC Absolute, 0xCE (R149). -/
  | decAbs (addr : Word)
  /-- DEC AbsoluteX, 0xDE (R149). -/
  | decAbsX (addr : Word)
  /-- DEX Implicit, 0xCA (R150). -/
  | dex
  /-- DEY Implicit, 0x88 (R151). -/
  | dey
  /-- AND Immediate, 0x29 (R161). -/
  | andImm (v : Byte)
  /-- AND ZeroPage, 0x25 (R161). -/
  | andZp (zp : Byte)
  /-- AND ZeroPageX, 0x35 (R161). -/
  | andZpX (zp : Byte)
  /-- AND Absolute, 0x2D (R161). -/
  | andAbs (addr : Word)
  /-- AND AbsoluteX, 0x3D (R161). -/
  | andAbsX (addr : Word)
  /-- AND AbsoluteY, 0x39 (R161). -/
  | andAbsY (addr : Word)
  /-- AND IndirectX, 0x21 (R161). -/
  | andIndX (zp : Byte)
  /-- AND IndirectY, 0x31 (R161). -/
  | andIndY (zp : Byte)
  /-- ORA Immediate, 0x09 (R162). -/
  | oraImm (v : Byte)
  /-- ORA ZeroPage, 0x05 (R162). -/
  | oraZp (zp : Byte)
  /-- ORA ZeroPageX, 0x15 (R162). -/
  | oraZpX (zp : Byte)
  /-- ORA Absolute, 0x0D (R162). -/
  | oraAbs (addr : Word)
  /-- ORA AbsoluteX, 0x1D (R162). -/
  | oraAbsX (addr : Word)
  /-- ORA AbsoluteY, 0x19 (R162). -/
  | oraAbsY (addr : Word)
  /-- ORA IndirectX, 0x01 (R162). -/
  | oraIndX (zp : Byte)
  /-- ORA IndirectY, 0x11 (R162). -/
  | oraIndY (zp : Byte)
  /-- EOR Immediate, 0x49 (R163). -/
  | eorImm (v : Byte)
  /-- EOR ZeroPage, 0x45 (R163). -/
  | eorZp (zp : Byte)
  /-- EOR ZeroPageX, 0x55 (R163). -/
  | eorZpX (zp : Byte)
  /-- EOR Absolute, 0x4D (R163). -/
  | eorAbs (addr : Word)
  /-- EOR AbsoluteX, 0x5D (R163). -/
  | eorAbsX (addr : Word)
  /-- EOR AbsoluteY, 0x59 (R163). -/
  | eorAbsY (addr : Word)
  /-- EOR IndirectX, 0x41 (R163). -/
  | eorIndX (zp : Byte)
  /-- EOR IndirectY, 0x51 (R163). -/
  | eorIndY (zp : Byte)
  /-- BIT ZeroPage, 0x24 (R164). -/
  | bitZp (zp : Byte)
  /-- BIT Absolute, 0x2C (R164). -/
  | bitAbs (addr : Word)
  /-- ASL Accumulator, 0x0A (R165). -/
  | aslA
  /-- ASL ZeroPage, 0x06 (R165). -/
  | aslZp (zp : Byte)
  /-- ASL ZeroPageX, 0x16 (R165). -/
  | aslZpX (zp : Byte)
  /-- ASL Absolute, 0x0E (R165). -/
  | aslAbs (addr : Word)
  /-- ASL AbsoluteX, 0x1E (R165). -/
  | aslAbsX (addr : Word)
  /-- LSR Accumulator, 0x4A (R166). -/
  | lsrA
  /-- LSR ZeroPage, 0x46 (R166). -/
  | lsrZp (zp : Byte)
  /-- LSR ZeroPageX, 0x56 (R166). -/
  | lsrZpX (zp : Byte)
  /-- LSR Absolute, 0x4E (R166). -/
  | lsrAbs (addr : Word)
  /-- LSR AbsoluteX, 0x5E (R166). -/
  | lsrAbsX (addr : Word)
  /-- ROL Accumulator, 0x2A (R167). -/
  | rolA
  /-- ROL ZeroPage, 0x26 (R167). -/
  | rolZp (zp : Byte)
  /-- ROL ZeroPageX, 0x36 (R167). -/
  | rolZpX (zp : Byte)
  /-- ROL Absolute, 0x2E (R167). -/
  | rolAbs (addr : Word)
  /-- ROL AbsoluteX, 0x3E (R167). -/
  | rolAbsX (addr : Word)
  /-- ROR Accumulator, 0x6A (R168). -/
  | rorA
  /-- ROR ZeroPage, 0x66 (R168). -/
  | rorZp (zp : Byte)
  /-- ROR ZeroPageX, 0x76 (R168). -/
  | rorZpX (zp : Byte)
  /-- ROR Absolute, 0x6E (R168). -/
  | rorAbs (addr : Word)
  /-- ROR AbsoluteX, 0x7E (R168). -/
  | rorAbsX (addr : Word)
  /-- PHA Implicit, 0x48 (R181). -/
  | pha
  /-- PHP Implicit, 0x08 (R182). -/
  | php
  /-- PLA Implicit, 0x68 (R183). -/
  | pla
  /-- PLP Implicit, 0x28 (R184). -/
  | plp
  /-- CLC Implicit, 0x18 (R185). -/
  | clc
  /-- SEC Implicit, 0x38 (R186). -/
  | sec
  /-- CLI Implicit, 0x58 (R187). -/
  | cli
  /-- SEI Implicit, 0x78 (R188). -/
  | sei
  /-- CLV Implicit, 0xB8 (R189). -/
  | clv
  /-- CLD Implicit, 0xD8 (R190). -/
  | cld
  /-- SED Implicit, 0xF8 (R191). -/
  | sed
  /-- NOP Implicit, 0xEA (R192). -/
  | nop
  /-- JMP Absolute, 0x4C (R201). -/
  | jmpAbs (addr : Word)
  /-- JMP Indirect, 0x6C (R201). -/
  | jmpInd (ptr : Word)
  /-- JSR Absolute, 0x20 (R202). -/
  | jsrAbs (addr : Word)
  /-- RTS Implicit, 0x60 (R203). -/
  | rts
  /-- BRK Implicit, 0x00 (R204). -/
  | brk
  /-- RTI Implicit, 0x40 (R205). -/
  | rti
  /-- BCC Relative, 0x90 (R207). -/
  | bcc (rel : Byte)
  /-- BCS Relative, 0xB0 (R208). -/
  | bcs (rel : Byte)
  /-- BEQ Relative, 0xF0 (R209). -/
  | beq (rel : Byte)
  /-- BNE Relative, 0xD0 (R210). -/
  | bne (rel : Byte)
  /-- BMI Relative, 0x30 (R211). -/
  | bmi (rel : Byte)
  /-- BPL Relative, 0x10 (R212). -/
  | bpl (rel : Byte)
  /-- BVC Relative, 0x50 (R213). -/
  | bvc (rel : Byte)
  /-- BVS Relative, 0x70 (R214). -/
  | bvs (rel : Byte)
  /-- The fallback Operation of an illegal opcode byte (R90); `WellFormed` asks that the byte be one of R91's list. -/
  | ill (opcode : Byte)
  deriving DecidableEq, Repr

end Sys2Proof
end

