-- ==== Sys2Proof/WellFormed.lean ====
section
/-! DEFINITION. Which instructions are well formed. Every legal row's operand has the width its mode gives it by its type,
so the one check is the opcode byte of the fallback Operation (R90, R91). -/

namespace Sys2Proof

/-- An instruction the decoder can give: `ill` carries one of the 105 values of R91. -/
def Instr.wellFormed : Instr → Bool
  | .ldaImm _ | .ldaZp _ | .ldaZpX _ | .ldaAbs _ | .ldaAbsX _ | .ldaAbsY _ | .ldaIndX _ | .ldaIndY _
  | .ldxImm _ | .ldxZp _ | .ldxZpY _ | .ldxAbs _ | .ldxAbsY _ | .ldyImm _ | .ldyZp _ | .ldyZpX _ | .ldyAbs _
  | .ldyAbsX _ | .staZp _ | .staZpX _ | .staAbs _ | .staAbsX _ | .staAbsY _ | .staIndX _ | .staIndY _
  | .stxZp _ | .stxZpY _ | .stxAbs _ | .styZp _ | .styZpX _ | .styAbs _ | .tax | .tay | .txa | .tya | .txs
  | .tsx | .adcImm _ | .adcZp _ | .adcZpX _ | .adcAbs _ | .adcAbsX _ | .adcAbsY _ | .adcIndX _ | .adcIndY _
  | .sbcImm _ | .sbcZp _ | .sbcZpX _ | .sbcAbs _ | .sbcAbsX _ | .sbcAbsY _ | .sbcIndX _ | .sbcIndY _
  | .cmpImm _ | .cmpZp _ | .cmpZpX _ | .cmpAbs _ | .cmpAbsX _ | .cmpAbsY _ | .cmpIndX _ | .cmpIndY _
  | .cpxImm _ | .cpxZp _ | .cpxAbs _ | .cpyImm _ | .cpyZp _ | .cpyAbs _ | .incZp _ | .incZpX _ | .incAbs _
  | .incAbsX _ | .inx | .iny | .decZp _ | .decZpX _ | .decAbs _ | .decAbsX _ | .dex | .dey | .andImm _
  | .andZp _ | .andZpX _ | .andAbs _ | .andAbsX _ | .andAbsY _ | .andIndX _ | .andIndY _ | .oraImm _ | .oraZp _
  | .oraZpX _ | .oraAbs _ | .oraAbsX _ | .oraAbsY _ | .oraIndX _ | .oraIndY _ | .eorImm _ | .eorZp _
  | .eorZpX _ | .eorAbs _ | .eorAbsX _ | .eorAbsY _ | .eorIndX _ | .eorIndY _ | .bitZp _ | .bitAbs _ | .aslA
  | .aslZp _ | .aslZpX _ | .aslAbs _ | .aslAbsX _ | .lsrA | .lsrZp _ | .lsrZpX _ | .lsrAbs _ | .lsrAbsX _
  | .rolA | .rolZp _ | .rolZpX _ | .rolAbs _ | .rolAbsX _ | .rorA | .rorZp _ | .rorZpX _ | .rorAbs _
  | .rorAbsX _ | .pha | .php | .pla | .plp | .clc | .sec | .cli | .sei | .clv | .cld | .sed | .nop | .jmpAbs _
  | .jmpInd _ | .jsrAbs _ | .rts | .brk | .rti | .bcc _ | .bcs _ | .beq _ | .bne _ | .bmi _ | .bpl _ | .bvc _
  | .bvs _ => true
  | .ill op => isIllegal op

end Sys2Proof
end

