-- ==== Sys2Proof/Decode.lean ====
section
/-! DEFINITION. The decoder (R80 to R85, R90), total on any bytes, and after it the encoder, both written from the opcode
table of R84 and R85. -/

namespace Sys2Proof

/-- Why bytes do not decode. Every opcode byte decodes (R92: no encoding traps), so only a list that ends inside an
instruction is rejected. The machine itself never meets this: it reads its bytes one by one from a total bus (R52). -/
inductive DecodeError where
  /-- There is no opcode byte. -/
  | noOpcode
  /-- The opcode's operand bytes are not all there. -/
  | missingOperand
  deriving DecidableEq, Repr

/-- The instruction of an opcode byte whose operand bytes are `b1` and `b2` (R83, R84): a mode of width 1 uses `b1`, a
mode of width 2 uses `b2:b1` (low byte first), a mode of width 0 neither. -/
def instrOf (op b1 b2 : Byte) : Instr :=
  match op with
  | 0x00 => .brk
  | 0x01 => .oraIndX b1
  | 0x05 => .oraZp b1
  | 0x06 => .aslZp b1
  | 0x08 => .php
  | 0x09 => .oraImm b1
  | 0x0A => .aslA
  | 0x0D => .oraAbs (join b2 b1)
  | 0x0E => .aslAbs (join b2 b1)
  | 0x10 => .bpl b1
  | 0x11 => .oraIndY b1
  | 0x15 => .oraZpX b1
  | 0x16 => .aslZpX b1
  | 0x18 => .clc
  | 0x19 => .oraAbsY (join b2 b1)
  | 0x1D => .oraAbsX (join b2 b1)
  | 0x1E => .aslAbsX (join b2 b1)
  | 0x20 => .jsrAbs (join b2 b1)
  | 0x21 => .andIndX b1
  | 0x24 => .bitZp b1
  | 0x25 => .andZp b1
  | 0x26 => .rolZp b1
  | 0x28 => .plp
  | 0x29 => .andImm b1
  | 0x2A => .rolA
  | 0x2C => .bitAbs (join b2 b1)
  | 0x2D => .andAbs (join b2 b1)
  | 0x2E => .rolAbs (join b2 b1)
  | 0x30 => .bmi b1
  | 0x31 => .andIndY b1
  | 0x35 => .andZpX b1
  | 0x36 => .rolZpX b1
  | 0x38 => .sec
  | 0x39 => .andAbsY (join b2 b1)
  | 0x3D => .andAbsX (join b2 b1)
  | 0x3E => .rolAbsX (join b2 b1)
  | 0x40 => .rti
  | 0x41 => .eorIndX b1
  | 0x45 => .eorZp b1
  | 0x46 => .lsrZp b1
  | 0x48 => .pha
  | 0x49 => .eorImm b1
  | 0x4A => .lsrA
  | 0x4C => .jmpAbs (join b2 b1)
  | 0x4D => .eorAbs (join b2 b1)
  | 0x4E => .lsrAbs (join b2 b1)
  | 0x50 => .bvc b1
  | 0x51 => .eorIndY b1
  | 0x55 => .eorZpX b1
  | 0x56 => .lsrZpX b1
  | 0x58 => .cli
  | 0x59 => .eorAbsY (join b2 b1)
  | 0x5D => .eorAbsX (join b2 b1)
  | 0x5E => .lsrAbsX (join b2 b1)
  | 0x60 => .rts
  | 0x61 => .adcIndX b1
  | 0x65 => .adcZp b1
  | 0x66 => .rorZp b1
  | 0x68 => .pla
  | 0x69 => .adcImm b1
  | 0x6A => .rorA
  | 0x6C => .jmpInd (join b2 b1)
  | 0x6D => .adcAbs (join b2 b1)
  | 0x6E => .rorAbs (join b2 b1)
  | 0x70 => .bvs b1
  | 0x71 => .adcIndY b1
  | 0x75 => .adcZpX b1
  | 0x76 => .rorZpX b1
  | 0x78 => .sei
  | 0x79 => .adcAbsY (join b2 b1)
  | 0x7D => .adcAbsX (join b2 b1)
  | 0x7E => .rorAbsX (join b2 b1)
  | 0x81 => .staIndX b1
  | 0x84 => .styZp b1
  | 0x85 => .staZp b1
  | 0x86 => .stxZp b1
  | 0x88 => .dey
  | 0x8A => .txa
  | 0x8C => .styAbs (join b2 b1)
  | 0x8D => .staAbs (join b2 b1)
  | 0x8E => .stxAbs (join b2 b1)
  | 0x90 => .bcc b1
  | 0x91 => .staIndY b1
  | 0x94 => .styZpX b1
  | 0x95 => .staZpX b1
  | 0x96 => .stxZpY b1
  | 0x98 => .tya
  | 0x99 => .staAbsY (join b2 b1)
  | 0x9A => .txs
  | 0x9D => .staAbsX (join b2 b1)
  | 0xA0 => .ldyImm b1
  | 0xA1 => .ldaIndX b1
  | 0xA2 => .ldxImm b1
  | 0xA4 => .ldyZp b1
  | 0xA5 => .ldaZp b1
  | 0xA6 => .ldxZp b1
  | 0xA8 => .tay
  | 0xA9 => .ldaImm b1
  | 0xAA => .tax
  | 0xAC => .ldyAbs (join b2 b1)
  | 0xAD => .ldaAbs (join b2 b1)
  | 0xAE => .ldxAbs (join b2 b1)
  | 0xB0 => .bcs b1
  | 0xB1 => .ldaIndY b1
  | 0xB4 => .ldyZpX b1
  | 0xB5 => .ldaZpX b1
  | 0xB6 => .ldxZpY b1
  | 0xB8 => .clv
  | 0xB9 => .ldaAbsY (join b2 b1)
  | 0xBA => .tsx
  | 0xBC => .ldyAbsX (join b2 b1)
  | 0xBD => .ldaAbsX (join b2 b1)
  | 0xBE => .ldxAbsY (join b2 b1)
  | 0xC0 => .cpyImm b1
  | 0xC1 => .cmpIndX b1
  | 0xC4 => .cpyZp b1
  | 0xC5 => .cmpZp b1
  | 0xC6 => .decZp b1
  | 0xC8 => .iny
  | 0xC9 => .cmpImm b1
  | 0xCA => .dex
  | 0xCC => .cpyAbs (join b2 b1)
  | 0xCD => .cmpAbs (join b2 b1)
  | 0xCE => .decAbs (join b2 b1)
  | 0xD0 => .bne b1
  | 0xD1 => .cmpIndY b1
  | 0xD5 => .cmpZpX b1
  | 0xD6 => .decZpX b1
  | 0xD8 => .cld
  | 0xD9 => .cmpAbsY (join b2 b1)
  | 0xDD => .cmpAbsX (join b2 b1)
  | 0xDE => .decAbsX (join b2 b1)
  | 0xE0 => .cpxImm b1
  | 0xE1 => .sbcIndX b1
  | 0xE4 => .cpxZp b1
  | 0xE5 => .sbcZp b1
  | 0xE6 => .incZp b1
  | 0xE8 => .inx
  | 0xE9 => .sbcImm b1
  | 0xEA => .nop
  | 0xEC => .cpxAbs (join b2 b1)
  | 0xED => .sbcAbs (join b2 b1)
  | 0xEE => .incAbs (join b2 b1)
  | 0xF0 => .beq b1
  | 0xF1 => .sbcIndY b1
  | 0xF5 => .sbcZpX b1
  | 0xF6 => .incZpX b1
  | 0xF8 => .sed
  | 0xF9 => .sbcAbsY (join b2 b1)
  | 0xFD => .sbcAbsX (join b2 b1)
  | 0xFE => .incAbsX (join b2 b1)
  | _ => .ill op

/-- Decode the instruction at the front of a list of bytes, and give the rest of the list. -/
def decode : List Byte → Except DecodeError (Instr × List Byte)
  | [] => .error .noOpcode
  | op :: rest =>
    match operandWidth op, rest with
    | 0, _ => .ok (instrOf op 0 0, rest)
    | 1, b1 :: rest' => .ok (instrOf op b1 0, rest')
    | 2, b1 :: b2 :: rest' => .ok (instrOf op b1 b2, rest')
    | _, _ => .error .missingOperand

/-- The three bytes, lowest address first, of a word numbered as the opcode table numbers it; the bits above `nbits`
are 0. The longest instruction has three bytes (R80). -/
def tableWordBytes (nbits w : Nat) : List Byte :=
  let v := w % 2 ^ nbits
  [BitVec.ofNat 8 v, BitVec.ofNat 8 (v / 2 ^ 8), BitVec.ofNat 8 (v / 2 ^ 16)]

/-- The instruction the decoder reads from a word of the opcode table. -/
def decodeTableWord (nbits w : Nat) : Option Instr :=
  match decode (tableWordBytes nbits w) with
  | .ok r => some r.1
  | .error _ => none

/-- The bytes of an instruction, at rising addresses (R80, R83, R85). Of an illegal opcode it is the opcode byte alone:
the bytes it skips are no part of what is read (R90). -/
def encode : Instr → List Byte
  | .ldaImm v => [0xA9, v]
  | .ldaZp zp => [0xA5, zp]
  | .ldaZpX zp => [0xB5, zp]
  | .ldaAbs addr => [0xAD, lo8 addr, hi8 addr]
  | .ldaAbsX addr => [0xBD, lo8 addr, hi8 addr]
  | .ldaAbsY addr => [0xB9, lo8 addr, hi8 addr]
  | .ldaIndX zp => [0xA1, zp]
  | .ldaIndY zp => [0xB1, zp]
  | .ldxImm v => [0xA2, v]
  | .ldxZp zp => [0xA6, zp]
  | .ldxZpY zp => [0xB6, zp]
  | .ldxAbs addr => [0xAE, lo8 addr, hi8 addr]
  | .ldxAbsY addr => [0xBE, lo8 addr, hi8 addr]
  | .ldyImm v => [0xA0, v]
  | .ldyZp zp => [0xA4, zp]
  | .ldyZpX zp => [0xB4, zp]
  | .ldyAbs addr => [0xAC, lo8 addr, hi8 addr]
  | .ldyAbsX addr => [0xBC, lo8 addr, hi8 addr]
  | .staZp zp => [0x85, zp]
  | .staZpX zp => [0x95, zp]
  | .staAbs addr => [0x8D, lo8 addr, hi8 addr]
  | .staAbsX addr => [0x9D, lo8 addr, hi8 addr]
  | .staAbsY addr => [0x99, lo8 addr, hi8 addr]
  | .staIndX zp => [0x81, zp]
  | .staIndY zp => [0x91, zp]
  | .stxZp zp => [0x86, zp]
  | .stxZpY zp => [0x96, zp]
  | .stxAbs addr => [0x8E, lo8 addr, hi8 addr]
  | .styZp zp => [0x84, zp]
  | .styZpX zp => [0x94, zp]
  | .styAbs addr => [0x8C, lo8 addr, hi8 addr]
  | .tax => [0xAA]
  | .tay => [0xA8]
  | .txa => [0x8A]
  | .tya => [0x98]
  | .txs => [0x9A]
  | .tsx => [0xBA]
  | .adcImm v => [0x69, v]
  | .adcZp zp => [0x65, zp]
  | .adcZpX zp => [0x75, zp]
  | .adcAbs addr => [0x6D, lo8 addr, hi8 addr]
  | .adcAbsX addr => [0x7D, lo8 addr, hi8 addr]
  | .adcAbsY addr => [0x79, lo8 addr, hi8 addr]
  | .adcIndX zp => [0x61, zp]
  | .adcIndY zp => [0x71, zp]
  | .sbcImm v => [0xE9, v]
  | .sbcZp zp => [0xE5, zp]
  | .sbcZpX zp => [0xF5, zp]
  | .sbcAbs addr => [0xED, lo8 addr, hi8 addr]
  | .sbcAbsX addr => [0xFD, lo8 addr, hi8 addr]
  | .sbcAbsY addr => [0xF9, lo8 addr, hi8 addr]
  | .sbcIndX zp => [0xE1, zp]
  | .sbcIndY zp => [0xF1, zp]
  | .cmpImm v => [0xC9, v]
  | .cmpZp zp => [0xC5, zp]
  | .cmpZpX zp => [0xD5, zp]
  | .cmpAbs addr => [0xCD, lo8 addr, hi8 addr]
  | .cmpAbsX addr => [0xDD, lo8 addr, hi8 addr]
  | .cmpAbsY addr => [0xD9, lo8 addr, hi8 addr]
  | .cmpIndX zp => [0xC1, zp]
  | .cmpIndY zp => [0xD1, zp]
  | .cpxImm v => [0xE0, v]
  | .cpxZp zp => [0xE4, zp]
  | .cpxAbs addr => [0xEC, lo8 addr, hi8 addr]
  | .cpyImm v => [0xC0, v]
  | .cpyZp zp => [0xC4, zp]
  | .cpyAbs addr => [0xCC, lo8 addr, hi8 addr]
  | .incZp zp => [0xE6, zp]
  | .incZpX zp => [0xF6, zp]
  | .incAbs addr => [0xEE, lo8 addr, hi8 addr]
  | .incAbsX addr => [0xFE, lo8 addr, hi8 addr]
  | .inx => [0xE8]
  | .iny => [0xC8]
  | .decZp zp => [0xC6, zp]
  | .decZpX zp => [0xD6, zp]
  | .decAbs addr => [0xCE, lo8 addr, hi8 addr]
  | .decAbsX addr => [0xDE, lo8 addr, hi8 addr]
  | .dex => [0xCA]
  | .dey => [0x88]
  | .andImm v => [0x29, v]
  | .andZp zp => [0x25, zp]
  | .andZpX zp => [0x35, zp]
  | .andAbs addr => [0x2D, lo8 addr, hi8 addr]
  | .andAbsX addr => [0x3D, lo8 addr, hi8 addr]
  | .andAbsY addr => [0x39, lo8 addr, hi8 addr]
  | .andIndX zp => [0x21, zp]
  | .andIndY zp => [0x31, zp]
  | .oraImm v => [0x09, v]
  | .oraZp zp => [0x05, zp]
  | .oraZpX zp => [0x15, zp]
  | .oraAbs addr => [0x0D, lo8 addr, hi8 addr]
  | .oraAbsX addr => [0x1D, lo8 addr, hi8 addr]
  | .oraAbsY addr => [0x19, lo8 addr, hi8 addr]
  | .oraIndX zp => [0x01, zp]
  | .oraIndY zp => [0x11, zp]
  | .eorImm v => [0x49, v]
  | .eorZp zp => [0x45, zp]
  | .eorZpX zp => [0x55, zp]
  | .eorAbs addr => [0x4D, lo8 addr, hi8 addr]
  | .eorAbsX addr => [0x5D, lo8 addr, hi8 addr]
  | .eorAbsY addr => [0x59, lo8 addr, hi8 addr]
  | .eorIndX zp => [0x41, zp]
  | .eorIndY zp => [0x51, zp]
  | .bitZp zp => [0x24, zp]
  | .bitAbs addr => [0x2C, lo8 addr, hi8 addr]
  | .aslA => [0x0A]
  | .aslZp zp => [0x06, zp]
  | .aslZpX zp => [0x16, zp]
  | .aslAbs addr => [0x0E, lo8 addr, hi8 addr]
  | .aslAbsX addr => [0x1E, lo8 addr, hi8 addr]
  | .lsrA => [0x4A]
  | .lsrZp zp => [0x46, zp]
  | .lsrZpX zp => [0x56, zp]
  | .lsrAbs addr => [0x4E, lo8 addr, hi8 addr]
  | .lsrAbsX addr => [0x5E, lo8 addr, hi8 addr]
  | .rolA => [0x2A]
  | .rolZp zp => [0x26, zp]
  | .rolZpX zp => [0x36, zp]
  | .rolAbs addr => [0x2E, lo8 addr, hi8 addr]
  | .rolAbsX addr => [0x3E, lo8 addr, hi8 addr]
  | .rorA => [0x6A]
  | .rorZp zp => [0x66, zp]
  | .rorZpX zp => [0x76, zp]
  | .rorAbs addr => [0x6E, lo8 addr, hi8 addr]
  | .rorAbsX addr => [0x7E, lo8 addr, hi8 addr]
  | .pha => [0x48]
  | .php => [0x08]
  | .pla => [0x68]
  | .plp => [0x28]
  | .clc => [0x18]
  | .sec => [0x38]
  | .cli => [0x58]
  | .sei => [0x78]
  | .clv => [0xB8]
  | .cld => [0xD8]
  | .sed => [0xF8]
  | .nop => [0xEA]
  | .jmpAbs addr => [0x4C, lo8 addr, hi8 addr]
  | .jmpInd ptr => [0x6C, lo8 ptr, hi8 ptr]
  | .jsrAbs addr => [0x20, lo8 addr, hi8 addr]
  | .rts => [0x60]
  | .brk => [0x00]
  | .rti => [0x40]
  | .bcc rel => [0x90, rel]
  | .bcs rel => [0xB0, rel]
  | .beq rel => [0xF0, rel]
  | .bne rel => [0xD0, rel]
  | .bmi rel => [0x30, rel]
  | .bpl rel => [0x10, rel]
  | .bvc rel => [0x50, rel]
  | .bvs rel => [0x70, rel]
  | .ill op => [op]

/-- The mnemonic of an instruction, as the opcode table spells it (R85; `ILL` for the fallback Operation). -/
def Instr.mnemonic : Instr → String
  | .ldaImm _ | .ldaZp _ | .ldaZpX _ | .ldaAbs _ | .ldaAbsX _ | .ldaAbsY _ | .ldaIndX _ | .ldaIndY _ => "LDA"
  | .ldxImm _ | .ldxZp _ | .ldxZpY _ | .ldxAbs _ | .ldxAbsY _ => "LDX"
  | .ldyImm _ | .ldyZp _ | .ldyZpX _ | .ldyAbs _ | .ldyAbsX _ => "LDY"
  | .staZp _ | .staZpX _ | .staAbs _ | .staAbsX _ | .staAbsY _ | .staIndX _ | .staIndY _ => "STA"
  | .stxZp _ | .stxZpY _ | .stxAbs _ => "STX"
  | .styZp _ | .styZpX _ | .styAbs _ => "STY"
  | .tax => "TAX"
  | .tay => "TAY"
  | .txa => "TXA"
  | .tya => "TYA"
  | .txs => "TXS"
  | .tsx => "TSX"
  | .adcImm _ | .adcZp _ | .adcZpX _ | .adcAbs _ | .adcAbsX _ | .adcAbsY _ | .adcIndX _ | .adcIndY _ => "ADC"
  | .sbcImm _ | .sbcZp _ | .sbcZpX _ | .sbcAbs _ | .sbcAbsX _ | .sbcAbsY _ | .sbcIndX _ | .sbcIndY _ => "SBC"
  | .cmpImm _ | .cmpZp _ | .cmpZpX _ | .cmpAbs _ | .cmpAbsX _ | .cmpAbsY _ | .cmpIndX _ | .cmpIndY _ => "CMP"
  | .cpxImm _ | .cpxZp _ | .cpxAbs _ => "CPX"
  | .cpyImm _ | .cpyZp _ | .cpyAbs _ => "CPY"
  | .incZp _ | .incZpX _ | .incAbs _ | .incAbsX _ => "INC"
  | .inx => "INX"
  | .iny => "INY"
  | .decZp _ | .decZpX _ | .decAbs _ | .decAbsX _ => "DEC"
  | .dex => "DEX"
  | .dey => "DEY"
  | .andImm _ | .andZp _ | .andZpX _ | .andAbs _ | .andAbsX _ | .andAbsY _ | .andIndX _ | .andIndY _ => "AND"
  | .oraImm _ | .oraZp _ | .oraZpX _ | .oraAbs _ | .oraAbsX _ | .oraAbsY _ | .oraIndX _ | .oraIndY _ => "ORA"
  | .eorImm _ | .eorZp _ | .eorZpX _ | .eorAbs _ | .eorAbsX _ | .eorAbsY _ | .eorIndX _ | .eorIndY _ => "EOR"
  | .bitZp _ | .bitAbs _ => "BIT"
  | .aslA | .aslZp _ | .aslZpX _ | .aslAbs _ | .aslAbsX _ => "ASL"
  | .lsrA | .lsrZp _ | .lsrZpX _ | .lsrAbs _ | .lsrAbsX _ => "LSR"
  | .rolA | .rolZp _ | .rolZpX _ | .rolAbs _ | .rolAbsX _ => "ROL"
  | .rorA | .rorZp _ | .rorZpX _ | .rorAbs _ | .rorAbsX _ => "ROR"
  | .pha => "PHA"
  | .php => "PHP"
  | .pla => "PLA"
  | .plp => "PLP"
  | .clc => "CLC"
  | .sec => "SEC"
  | .cli => "CLI"
  | .sei => "SEI"
  | .clv => "CLV"
  | .cld => "CLD"
  | .sed => "SED"
  | .nop => "NOP"
  | .jmpAbs _ | .jmpInd _ => "JMP"
  | .jsrAbs _ => "JSR"
  | .rts => "RTS"
  | .brk => "BRK"
  | .rti => "RTI"
  | .bcc _ => "BCC"
  | .bcs _ => "BCS"
  | .beq _ => "BEQ"
  | .bne _ => "BNE"
  | .bmi _ => "BMI"
  | .bpl _ => "BPL"
  | .bvc _ => "BVC"
  | .bvs _ => "BVS"
  | .ill _ => "ILL"

end Sys2Proof
end

