-- ==== Sys2Proof/Machine/Fetch.lean ====
section
/-! DEFINITION. Fetching an instruction (R63, R82, R101), and placing one where the machine fetches. -/

namespace Sys2Proof.Machine

/-- Read the byte at PC and advance PC (R82, and R101's FetchOperand8). -/
def fetchByte (s : State) : Byte × State :=
  let r := read8 s.pc s
  (r.1, r.2.setPc (s.pc + 1))

/-- Fetch one instruction (R82, R101): the opcode byte, then as many operand bytes as its mode has, in ascending address
order; PC is left at the next sequential instruction (R24). -/
def fetch (s : State) : Instr × State :=
  let op := fetchByte s
  match operandWidth op.1 with
  | 0 => (instrOf op.1 0 0, op.2)
  | 1 =>
    let b1 := fetchByte op.2
    (instrOf op.1 b1.1 0, b1.2)
  | _ =>
    let b1 := fetchByte op.2
    let b2 := fetchByte b1.2
    (instrOf op.1 b1.1 b2.1, b2.2)

/-- Store bytes at rising addresses (mod 65536) as a loader behind the bus does: no bus event of the core's. -/
def placeBytes (addr : Word) (bytes : List Byte) (m : Memory) : Memory :=
  match bytes with
  | [] => m
  | b :: rest => placeBytes (addr + 1) rest (m.write addr.toNat b)

/-- The map with as many addresses from `addr` on made plain memory, where they are not: what placing bytes there takes. -/
def plainFrom (addr : Word) (count : Nat) (map : List Region) : List Region :=
  match count with
  | 0 => map
  | k + 1 => plainFrom (addr + 1) k (if plainIn map addr then map else { first := addr, last := addr, plain := true } :: map)

/-- `s` about to fetch an instruction of the opcode table at PC (log 4): its bytes stand in plain memory at PC, the machine is Running, and
no latched interrupt is due, since a step that services one fetches at its handler instead (R240). -/
def placeInstruction (s : State) (nbits w : Nat) : State :=
  { s with
    mem := placeBytes s.pc (tableWordBytes nbits w) s.mem
    addressMap := plainFrom s.pc (tableWordBytes nbits w).length s.addressMap
    runState := .running
    pendingNmi := false
    pendingIrq := s.pendingIrq && s.p.i }

end Sys2Proof.Machine
end

