-- ==== Sys2Proof/Machine/Interrupts.lean ====
section
/-! DEFINITION. The interrupt controller at the start of a step (R233 to R241). -/

namespace Sys2Proof.Machine

/-- The two kinds of interrupt request (R12, R233). -/
inductive InterruptKind where
  | nmi
  | irq
  deriving DecidableEq, Repr

/-- The interrupt a step services, if any (R234, R235, R240): NMI whenever latched, else IRQ when latched and I is 0. -/
def dueInterrupt (s : State) : Option InterruptKind :=
  if s.pendingNmi then some .nmi
  else if s.pendingIrq && !s.p.i then some .irq
  else none

/-- Clear the latch of one kind (R240). -/
def clearLatch (k : InterruptKind) (s : State) : State :=
  match k with
  | .nmi => { s with pendingNmi := false }
  | .irq => { s with pendingIrq := false }

/-- The vector of one kind (R232). -/
def vectorOf : InterruptKind → Word
  | .nmi => nmiVector
  | .irq => irqVector

/-- Service one interrupt (R236, R240, R245): clear its latch, enter its handler, count INTERRUPT_CYCLES. -/
def service (k : InterruptKind) (s : State) : State :=
  (interruptEntry (vectorOf k) s.cfg.pushBOnHwInterrupt (clearLatch k s)).addCycles s.cfg.interruptCycles

/-- The first part of a step (R240, R241): service at most one interrupt. -/
def serviceInterrupts (s : State) : State :=
  match dueInterrupt s with
  | some k => service k s
  | none => s

/-- A step's outputs start empty: no cycle counted (R240), no bus event yet (log 3). -/
def clearOutputs (s : State) : State := { s with elapsed := 0, bus := [] }

end Sys2Proof.Machine
end

