-- ==== Sys2Proof/Machine/Step.lean ====
section
/-! DEFINITION. The step procedure (R240). -/

namespace Sys2Proof.Machine

/-- `ExecuteOne()` (R82): fetch one instruction and run it. -/
def executeOne (s : State) : Host.Outcome State Fault Refusal :=
  let f := fetch s
  exec f.1 f.2

/-- `step()` (R240): while Running, service at most one interrupt and execute exactly one instruction; while Halted,
report the error value and change nothing (R252). -/
def step (s : State) : Host.Outcome State Fault Refusal :=
  match s.runState with
  | .halted => .fault .steppedWhileHalted
  | .running => executeOne (serviceInterrupts (clearOutputs s))

/-- `s` with an instruction of the opcode table stored where `step` fetches its next instruction (log 4). -/
def State.withFetchWord (s : State) (nbits w : Nat) : State := placeInstruction s nbits w

end Sys2Proof.Machine
end

