-- ==== Sys2Proof/Machine/Interface.lean ====
section
/-! DEFINITION. The control interface (R12): the five operations of the environment and the read-only accessors (R38). An
operation acts between steps (R12, R274; log 6). -/

namespace Sys2Proof.Machine

/-- `PowerUp()` (R270): construction, on a bus that is plain memory where `map` says so and holds `mem` there (R52, R61); two
vector reads and no write. -/
def powerUp (cfg : Config) (map : List Region) (mem : Memory) : State :=
  let s : State :=
    { a := 0x00, x := 0x00, y := 0x00, sp := 0xFD, pc := 0x0000
      p := { c := false, z := false, i := true, d := false, b := true, v := false, n := false }
      pendingNmi := false, pendingIrq := false, runState := .running
      mem := mem, addressMap := map, cfg := cfg, elapsed := 0, bus := [], portEvents := 0 }
  let v := read16 resetVector s
  v.2.setPc v.1

/-- `reset()` (R272): three phantom pushes, I set, latches cleared, Running, PC from the RESET vector; no write. It reports
no cycles (R289). -/
def hardwareReset (s : State) : State :=
  let s1 : State :=
    { clearOutputs s with
      sp := s.sp - 3
      p := { s.p with i := true }
      pendingNmi := false
      pendingIrq := false
      runState := .running }
  let v := read16 resetVector s1
  v.2.setPc v.1

/-- `requestInterrupt(kind)` (R233): the latch is set and nothing else changes. -/
def requestInterrupt (k : InterruptKind) (s : State) : State :=
  match k with
  | .nmi => { s with pendingNmi := true }
  | .irq => { s with pendingIrq := true }

/-- `stop()` (R250): Halted, and nothing else. -/
def stop (s : State) : State := { s with runState := .halted }

/-- A call of the environment on a machine that is constructed (R12). -/
inductive Call where
  | reset
  | step
  | requestInterrupt (k : InterruptKind)
  | stop
  deriving DecidableEq, Repr

/-- One call, one atomic transition (R12). Only `step` can report an error (R252). -/
def perform (c : Call) (s : State) : Result :=
  match c with
  | .reset => .next (hardwareReset s)
  | .step => step s
  | .requestInterrupt k => .next (requestInterrupt k s)
  | .stop => .next (stop s)

/-- What the read-only accessors show (R12, R38): the registers, P as a byte, and each named flag of R25. -/
structure Accessors where
  a : Byte
  x : Byte
  y : Byte
  sp : Byte
  pc : Word
  p : Byte
  carry : Bool
  zero : Bool
  interruptDisable : Bool
  decimal : Bool
  brk : Bool
  overflow : Bool
  negative : Bool
  deriving DecidableEq, Repr

/-- The accessors (R12, R38): no side effect. -/
def accessors (s : State) : Accessors :=
  { a := s.a, x := s.x, y := s.y, sp := s.sp, pc := s.pc, p := s.p.toByte
    carry := s.p.c, zero := s.p.z, interruptDisable := s.p.i, decimal := s.p.d, brk := s.p.b, overflow := s.p.v
    negative := s.p.n }

end Sys2Proof.Machine
end

