-- ==== Sys2Proof/Safety.lean ====
section
/-! DEFINITION. The terms claims about runs use: the invariant of the machine, and a run that reports no error. -/

namespace Sys2Proof.Machine

/-- The invariant: memory is in its canonical form, so that equal memories are equal data, and the parameters are in the
ranges R6 gives them. Every other field is legal at every value of its type (R20 to R26). -/
abbrev State.Inv (s : State) : Prop := s.mem.wf = true ∧ s.cfg.wf = true

/-- The calls run one after another, each answering a next state, and lead to `t`. -/
def Runs : List Call → State → State → Prop
  | [], s, t => t = s
  | c :: cs, s, t => ∃ u, perform c s = .next u ∧ Runs cs u t

/-- A run of calls is safe: no call of it reports an error (the only one is `step` while Halted, R252). -/
def SafeRun (cs : List Call) (s : State) : Prop := ∃ t, Runs cs s t

end Sys2Proof.Machine
end

