-- ==== Sys2Proof/Certificates/Slice0/Obligations.lean ====
section
/-! DEFINITION. The statements for the provers, and the vocabulary they are written in. The vocabulary says addresses,
byte order, flags and stack places again from the spec in plain arithmetic, not through the model's own helpers. The
statements hold for every answer of the bus: where `addressMap` says that an address is plain memory the answer is the
byte held there (log 1, DESIGN CHOICE), and anywhere else it is free (log 10). `cfg` makes them hold for every value of
the parameters (log 2); `elapsed` and `bus` are the model's output fields (log 3), and `portEvents` counts the bus
events (log 10). -/

namespace Sys2Proof.Claims

open Sys2Proof.Machine

/-! ### Bytes, words and flags (R7, R9, R10) -/

/-- `w[15:8]` (R7). -/
def hiByte (w : Word) : Byte := BitVec.ofNat 8 (w.toNat / 256)

/-- `w[7:0]` (R7). -/
def loByte (w : Word) : Byte := BitVec.ofNat 8 (w.toNat % 256)

/-- `hi:lo`, that is `hi * 256 + lo` (R7). -/
def word (hi lo : Byte) : Word := BitVec.ofNat 16 (hi.toNat * 256 + lo.toNat)

/-- The place of a byte address in page 0 (R9). -/
def page0 (b : Byte) : Word := word 0 b

/-- A byte read as two's complement, `s8(x)` (R140). -/
def signed (b : Byte) : Int := if b.toNat < 128 then b.toNat else (b.toNat : Int) - 256

/-- P after `SetZN(v)` (R10). -/
def zn (v : Byte) (p : Status) : Status := { p with z := decide (v.toNat = 0), n := decide (128 ≤ v.toNat) }

/-! ### The bus (R51, R52, R61) -/

/-- What the bus returns to a read that is event number `k`, from 0, on the bus from `s`: the byte held where it is
plain memory, the free answer of the environment anywhere else (R52, R61; log 1, log 10). -/
def answer (s : State) (k : Nat) (addr : Word) : Byte :=
  if s.isPlain addr then s.byteAt addr else Config.busAnswer (s.portEvents + k) addr

/-- That read as an event. -/
def readOf (s : State) (k : Nat) (addr : Word) : BusEvent := .read addr (answer s k addr)

/-- `s` after some more bus events, and nothing else. -/
def afterEvents (es : List BusEvent) (s : State) : State :=
  { s with bus := s.bus ++ es, portEvents := s.portEvents + es.length }

/-! ### Operands (R102, R118) -/

/-- A base plus an unsigned index, mod 65536 (R110, R111). -/
def plusIndex (base : Word) (index : Byte) : Word := BitVec.ofNat 16 (base.toNat + index.toNat)

/-- The two bytes of a pointer at `p` and `p + 1`, both in page 0, read in that order (R113, R114). -/
def pointer0 (p : Byte) (s : State) : Word := word (answer s 1 (page0 (p + 1))) (answer s 0 (page0 p))

/-- Where the high byte of JMP (indirect)'s target stands: within the page of `ptr` when JMP_INDIRECT_PAGE_WRAP (R112).
-/
def nextInPage (c : Config) (ptr : Word) : Word :=
  if c.jmpIndirectPageWrap then word (hiByte ptr) (loByte ptr + 1) else BitVec.ofNat 16 (ptr.toNat + 1)

/-- The effective address of each memory mode: the column of R118. -/
def address : MemOperand → State → Word
  | .zeroPage zp, _ => page0 zp
  | .zeroPageX zp, s => page0 (zp + s.x)
  | .zeroPageY zp, s => page0 (zp + s.y)
  | .absolute addr, _ => addr
  | .absoluteX addr, s => plusIndex addr s.x
  | .absoluteY addr, s => plusIndex addr s.y
  | .indirect ptr, s => word (answer s 1 (nextInPage s.cfg ptr)) (answer s 0 ptr)
  | .indirectX zp, s => pointer0 (zp + s.x) s
  | .indirectY zp, s => plusIndex (pointer0 zp s) s.y

/-- The page-cross result of each memory mode: the column of R118, with R102's test. -/
def crossed : MemOperand → State → Bool
  | .absoluteX addr, s => decide (addr.toNat / 256 ≠ (plusIndex addr s.x).toNat / 256)
  | .absoluteY addr, s => decide (addr.toNat / 256 ≠ (plusIndex addr s.y).toNat / 256)
  | .indirectY zp, s => decide ((pointer0 zp s).toNat / 256 ≠ (plusIndex (pointer0 zp s) s.y).toNat / 256)
  | _, _ => false

/-- The pointer reads of each memory mode, in order (R112 to R114). -/
def pointerReads : MemOperand → State → List BusEvent
  | .indirect ptr, s => [readOf s 0 ptr, readOf s 1 (nextInPage s.cfg ptr)]
  | .indirectX zp, s => [readOf s 0 (page0 (zp + s.x)), readOf s 1 (page0 (zp + s.x + 1))]
  | .indirectY zp, s => [readOf s 0 (page0 zp), readOf s 1 (page0 (zp + 1))]
  | _, _ => []

/-- The byte a data read at the effective address returns: it comes after the pointer reads (R133). -/
def operandByte (o : MemOperand) (s : State) : Byte := answer s (pointerReads o s).length (address o s)

/-- That data read as an event. -/
def dataRead (o : MemOperand) (s : State) : BusEvent := .read (address o s) (operandByte o s)

/-- The operand bytes of each memory mode, low byte first (R83). -/
def operandBytes : MemOperand → List Byte
  | .zeroPage zp | .zeroPageX zp | .zeroPageY zp | .indirectX zp | .indirectY zp => [zp]
  | .absolute addr | .absoluteX addr | .absoluteY addr | .indirect addr => [loByte addr, hiByte addr]

/-- The operand bytes of a reading instruction (R83). -/
def readBytes : ReadOperand → List Byte
  | .immediate v => [v]
  | .memory o => operandBytes o

/-- The byte a reading instruction works on: the immediate byte, or the byte read at the effective address (R121). -/
def value : ReadOperand → State → Byte
  | .immediate v, _ => v
  | .memory o, s => operandByte o s

/-- The bus events of a reading instruction after its own bytes are fetched: pointer reads, then the data read (R133).
-/
def reads : ReadOperand → State → List BusEvent
  | .immediate _, _ => []
  | .memory o, s => pointerReads o s ++ [dataRead o s]

/-- The extra cycle of a reading instruction (R116, R286): one when its mode reports a page cross. -/
def crossCycles : ReadOperand → State → Nat
  | .immediate _, _ => 0
  | .memory o, s => if crossed o s then 1 else 0

/-- BASE_CYCLES[op] (R288). -/
def base (s : State) (op : Byte) : Nat := s.cfg.baseCycles.getD op.toNat 0

/-- BASE_CYCLES[op] at the value this spec takes, the column "cyc" of R85. -/
def taken (op : Byte) : Nat := Config.taken.baseCycles.getD op.toNat 0

/-! ### The stack and memory (R23, R27, R28, R50) -/

/-- `0x0100 | SP` (R23). -/
def stackPlace (sp : Byte) : Word := word 1 sp

/-- Where the `k`-th push from `s` writes, k = 1, 2, 3 (R27). -/
def pushAt (s : State) (k : Nat) : Word :=
  stackPlace (s.sp - BitVec.ofNat 8 (if s.cfg.stackPushPredecrement then k else k - 1))

/-- Where the `k`-th pull from `s` reads, k = 1, 2, 3 (R28). -/
def pullAt (s : State) (k : Nat) : Word :=
  stackPlace (s.sp + BitVec.ofNat 8 (if s.cfg.stackPushPredecrement then k - 1 else k))

/-- The bytes of plain memory after some writes, in order: a write where the bus is not plain memory leaves it as it is.
-/
def written (plain : Word → Bool) (f : Word → Byte) : List (Word × Byte) → Word → Byte
  | [] => f
  | w :: ws => written plain (fun a => if a = w.1 ∧ plain a = true then w.2 else f a) ws

/-- The events of some writes, in order. -/
def writeEvents (ws : List (Word × Byte)) : List BusEvent := ws.map (fun w => .write w.1 w.2)

/-- `m` is canonical and reads as `f` at every address: it is THE memory with those bytes (log 1). -/
def MemoryIs (m : Memory) (f : Word → Byte) : Prop := m.wf = true ∧ ∀ a : Word, m.read a.toNat = f a

/-- `m` is the plain memory behind the bus after some writes made from `s`. -/
def MemoryAfter (s : State) (ws : List (Word × Byte)) (m : Memory) : Prop :=
  MemoryIs m (written s.isPlain s.byteAt ws)

/-- The writes of an interrupt entry that pushes `pc` and a copy of P with `b` in bit 4 (R236). -/
def entryWrites (s : State) (pc : Word) (b : Bool) : List (Word × Byte) :=
  [(pushAt s 1, hiByte pc), (pushAt s 2, loByte pc),
   (pushAt s 3, (s.p.toByte &&& 0xCF) ||| 0x20 ||| (if b then 0x10 else 0))]

/-- The 16-bit value a vector read gives, its two reads being events `k` and `k + 1` from `s` (R232). -/
def vectorAt (s : State) (k : Nat) (vector : Word) : Word := word (answer s (k + 1) (vector + 1)) (answer s k vector)

/-- Events, the first of them bus event number `n`, that begin with bytes `f` in plain memory and end with bytes `g`:
every read returned the byte that stood there at that moment, or the environment's answer where the bus is not plain
memory, and every write changed at most its own byte of plain memory. -/
def Replays (plain : Word → Bool) : Nat → (Word → Byte) → List BusEvent → (Word → Byte) → Prop
  | _, f, [], g => ∀ a, g a = f a
  | n, f, .read a v :: es, g => v = (if plain a then f a else Config.busAnswer n a) ∧ Replays plain (n + 1) f es g
  | n, f, .write a v :: es, g => Replays plain (n + 1) (fun b => if b = a ∧ plain b = true then v else f b) es g

/-! ### What is compared in the noninterference statements -/

/-- A state without what only the cycle count depends on: the count itself and the three timing parameters (R6, R285).
-/
def timeless (s : State) : State :=
  { s with elapsed := 0, cfg := { s.cfg with baseCycles := [], illegalCycles := 0, interruptCycles := 0 } }

/-- A state with the stored Break bit at a given value. -/
def withBreak (b : Bool) (s : State) : State := { s with p := { s.p with b := b } }

/-! ### The forms of each mnemonic: the "Encodings" lines of the rules -/

/-- The forms of LDA (R121): the opcode and the instruction of each operand it may take. -/
def ldaForm : ReadOperand → Option (Byte × Instr)
  | .immediate v => some (0xA9, .ldaImm v)
  | .memory (.zeroPage zp) => some (0xA5, .ldaZp zp)
  | .memory (.zeroPageX zp) => some (0xB5, .ldaZpX zp)
  | .memory (.absolute addr) => some (0xAD, .ldaAbs addr)
  | .memory (.absoluteX addr) => some (0xBD, .ldaAbsX addr)
  | .memory (.absoluteY addr) => some (0xB9, .ldaAbsY addr)
  | .memory (.indirectX zp) => some (0xA1, .ldaIndX zp)
  | .memory (.indirectY zp) => some (0xB1, .ldaIndY zp)
  | _ => none

/-- The forms of LDX (R122): the opcode and the instruction of each operand it may take. -/
def ldxForm : ReadOperand → Option (Byte × Instr)
  | .immediate v => some (0xA2, .ldxImm v)
  | .memory (.zeroPage zp) => some (0xA6, .ldxZp zp)
  | .memory (.zeroPageY zp) => some (0xB6, .ldxZpY zp)
  | .memory (.absolute addr) => some (0xAE, .ldxAbs addr)
  | .memory (.absoluteY addr) => some (0xBE, .ldxAbsY addr)
  | _ => none

/-- The forms of LDY (R123): the opcode and the instruction of each operand it may take. -/
def ldyForm : ReadOperand → Option (Byte × Instr)
  | .immediate v => some (0xA0, .ldyImm v)
  | .memory (.zeroPage zp) => some (0xA4, .ldyZp zp)
  | .memory (.zeroPageX zp) => some (0xB4, .ldyZpX zp)
  | .memory (.absolute addr) => some (0xAC, .ldyAbs addr)
  | .memory (.absoluteX addr) => some (0xBC, .ldyAbsX addr)
  | _ => none

/-- The forms of ADC (R141): the opcode and the instruction of each operand it may take. -/
def adcForm : ReadOperand → Option (Byte × Instr)
  | .immediate v => some (0x69, .adcImm v)
  | .memory (.zeroPage zp) => some (0x65, .adcZp zp)
  | .memory (.zeroPageX zp) => some (0x75, .adcZpX zp)
  | .memory (.absolute addr) => some (0x6D, .adcAbs addr)
  | .memory (.absoluteX addr) => some (0x7D, .adcAbsX addr)
  | .memory (.absoluteY addr) => some (0x79, .adcAbsY addr)
  | .memory (.indirectX zp) => some (0x61, .adcIndX zp)
  | .memory (.indirectY zp) => some (0x71, .adcIndY zp)
  | _ => none

/-- The forms of SBC (R142): the opcode and the instruction of each operand it may take. -/
def sbcForm : ReadOperand → Option (Byte × Instr)
  | .immediate v => some (0xE9, .sbcImm v)
  | .memory (.zeroPage zp) => some (0xE5, .sbcZp zp)
  | .memory (.zeroPageX zp) => some (0xF5, .sbcZpX zp)
  | .memory (.absolute addr) => some (0xED, .sbcAbs addr)
  | .memory (.absoluteX addr) => some (0xFD, .sbcAbsX addr)
  | .memory (.absoluteY addr) => some (0xF9, .sbcAbsY addr)
  | .memory (.indirectX zp) => some (0xE1, .sbcIndX zp)
  | .memory (.indirectY zp) => some (0xF1, .sbcIndY zp)
  | _ => none

/-- The forms of CMP (R143): the opcode and the instruction of each operand it may take. -/
def cmpForm : ReadOperand → Option (Byte × Instr)
  | .immediate v => some (0xC9, .cmpImm v)
  | .memory (.zeroPage zp) => some (0xC5, .cmpZp zp)
  | .memory (.zeroPageX zp) => some (0xD5, .cmpZpX zp)
  | .memory (.absolute addr) => some (0xCD, .cmpAbs addr)
  | .memory (.absoluteX addr) => some (0xDD, .cmpAbsX addr)
  | .memory (.absoluteY addr) => some (0xD9, .cmpAbsY addr)
  | .memory (.indirectX zp) => some (0xC1, .cmpIndX zp)
  | .memory (.indirectY zp) => some (0xD1, .cmpIndY zp)
  | _ => none

/-- The forms of CPX (R144): the opcode and the instruction of each operand it may take. -/
def cpxForm : ReadOperand → Option (Byte × Instr)
  | .immediate v => some (0xE0, .cpxImm v)
  | .memory (.zeroPage zp) => some (0xE4, .cpxZp zp)
  | .memory (.absolute addr) => some (0xEC, .cpxAbs addr)
  | _ => none

/-- The forms of CPY (R145): the opcode and the instruction of each operand it may take. -/
def cpyForm : ReadOperand → Option (Byte × Instr)
  | .immediate v => some (0xC0, .cpyImm v)
  | .memory (.zeroPage zp) => some (0xC4, .cpyZp zp)
  | .memory (.absolute addr) => some (0xCC, .cpyAbs addr)
  | _ => none

/-- The forms of AND (R161): the opcode and the instruction of each operand it may take. -/
def andForm : ReadOperand → Option (Byte × Instr)
  | .immediate v => some (0x29, .andImm v)
  | .memory (.zeroPage zp) => some (0x25, .andZp zp)
  | .memory (.zeroPageX zp) => some (0x35, .andZpX zp)
  | .memory (.absolute addr) => some (0x2D, .andAbs addr)
  | .memory (.absoluteX addr) => some (0x3D, .andAbsX addr)
  | .memory (.absoluteY addr) => some (0x39, .andAbsY addr)
  | .memory (.indirectX zp) => some (0x21, .andIndX zp)
  | .memory (.indirectY zp) => some (0x31, .andIndY zp)
  | _ => none

/-- The forms of ORA (R162): the opcode and the instruction of each operand it may take. -/
def oraForm : ReadOperand → Option (Byte × Instr)
  | .immediate v => some (0x09, .oraImm v)
  | .memory (.zeroPage zp) => some (0x05, .oraZp zp)
  | .memory (.zeroPageX zp) => some (0x15, .oraZpX zp)
  | .memory (.absolute addr) => some (0x0D, .oraAbs addr)
  | .memory (.absoluteX addr) => some (0x1D, .oraAbsX addr)
  | .memory (.absoluteY addr) => some (0x19, .oraAbsY addr)
  | .memory (.indirectX zp) => some (0x01, .oraIndX zp)
  | .memory (.indirectY zp) => some (0x11, .oraIndY zp)
  | _ => none

/-- The forms of EOR (R163): the opcode and the instruction of each operand it may take. -/
def eorForm : ReadOperand → Option (Byte × Instr)
  | .immediate v => some (0x49, .eorImm v)
  | .memory (.zeroPage zp) => some (0x45, .eorZp zp)
  | .memory (.zeroPageX zp) => some (0x55, .eorZpX zp)
  | .memory (.absolute addr) => some (0x4D, .eorAbs addr)
  | .memory (.absoluteX addr) => some (0x5D, .eorAbsX addr)
  | .memory (.absoluteY addr) => some (0x59, .eorAbsY addr)
  | .memory (.indirectX zp) => some (0x41, .eorIndX zp)
  | .memory (.indirectY zp) => some (0x51, .eorIndY zp)
  | _ => none

/-- The memory forms of STA (R124): the opcode and the instruction of each operand it may take. -/
def staForm : MemOperand → Option (Byte × Instr)
  | .zeroPage zp => some (0x85, .staZp zp)
  | .zeroPageX zp => some (0x95, .staZpX zp)
  | .absolute addr => some (0x8D, .staAbs addr)
  | .absoluteX addr => some (0x9D, .staAbsX addr)
  | .absoluteY addr => some (0x99, .staAbsY addr)
  | .indirectX zp => some (0x81, .staIndX zp)
  | .indirectY zp => some (0x91, .staIndY zp)
  | _ => none

/-- The memory forms of STX (R125): the opcode and the instruction of each operand it may take. -/
def stxForm : MemOperand → Option (Byte × Instr)
  | .zeroPage zp => some (0x86, .stxZp zp)
  | .zeroPageY zp => some (0x96, .stxZpY zp)
  | .absolute addr => some (0x8E, .stxAbs addr)
  | _ => none

/-- The memory forms of STY (R126): the opcode and the instruction of each operand it may take. -/
def styForm : MemOperand → Option (Byte × Instr)
  | .zeroPage zp => some (0x84, .styZp zp)
  | .zeroPageX zp => some (0x94, .styZpX zp)
  | .absolute addr => some (0x8C, .styAbs addr)
  | _ => none

/-- The memory forms of INC (R146): the opcode and the instruction of each operand it may take. -/
def incForm : MemOperand → Option (Byte × Instr)
  | .zeroPage zp => some (0xE6, .incZp zp)
  | .zeroPageX zp => some (0xF6, .incZpX zp)
  | .absolute addr => some (0xEE, .incAbs addr)
  | .absoluteX addr => some (0xFE, .incAbsX addr)
  | _ => none

/-- The memory forms of DEC (R149): the opcode and the instruction of each operand it may take. -/
def decForm : MemOperand → Option (Byte × Instr)
  | .zeroPage zp => some (0xC6, .decZp zp)
  | .zeroPageX zp => some (0xD6, .decZpX zp)
  | .absolute addr => some (0xCE, .decAbs addr)
  | .absoluteX addr => some (0xDE, .decAbsX addr)
  | _ => none

/-- The memory forms of BIT (R164): the opcode and the instruction of each operand it may take. -/
def bitForm : MemOperand → Option (Byte × Instr)
  | .zeroPage zp => some (0x24, .bitZp zp)
  | .absolute addr => some (0x2C, .bitAbs addr)
  | _ => none

/-- The memory forms of ASL (R165): the opcode and the instruction of each operand it may take. -/
def aslForm : MemOperand → Option (Byte × Instr)
  | .zeroPage zp => some (0x06, .aslZp zp)
  | .zeroPageX zp => some (0x16, .aslZpX zp)
  | .absolute addr => some (0x0E, .aslAbs addr)
  | .absoluteX addr => some (0x1E, .aslAbsX addr)
  | _ => none

/-- The memory forms of LSR (R166): the opcode and the instruction of each operand it may take. -/
def lsrForm : MemOperand → Option (Byte × Instr)
  | .zeroPage zp => some (0x46, .lsrZp zp)
  | .zeroPageX zp => some (0x56, .lsrZpX zp)
  | .absolute addr => some (0x4E, .lsrAbs addr)
  | .absoluteX addr => some (0x5E, .lsrAbsX addr)
  | _ => none

/-- The memory forms of ROL (R167): the opcode and the instruction of each operand it may take. -/
def rolForm : MemOperand → Option (Byte × Instr)
  | .zeroPage zp => some (0x26, .rolZp zp)
  | .zeroPageX zp => some (0x36, .rolZpX zp)
  | .absolute addr => some (0x2E, .rolAbs addr)
  | .absoluteX addr => some (0x3E, .rolAbsX addr)
  | _ => none

/-- The memory forms of ROR (R168): the opcode and the instruction of each operand it may take. -/
def rorForm : MemOperand → Option (Byte × Instr)
  | .zeroPage zp => some (0x66, .rorZp zp)
  | .zeroPageX zp => some (0x76, .rorZpX zp)
  | .absolute addr => some (0x6E, .rorAbs addr)
  | .absoluteX addr => some (0x7E, .rorAbsX addr)
  | _ => none

/-- The memory forms of JMP (R201): the opcode and the instruction of each operand it may take. -/
def jmpForm : MemOperand → Option (Byte × Instr)
  | .absolute addr => some (0x4C, .jmpAbs addr)
  | .indirect ptr => some (0x6C, .jmpInd ptr)
  | _ => none

/-- The eight branches (R207 to R214): opcode, instruction, and whether the flags of `p` take it. -/
def branchForms (rel : Byte) (p : Status) : List (Byte × Instr × Bool) :=
  [(0x90, .bcc rel, !p.c), (0xB0, .bcs rel, p.c), (0xF0, .beq rel, p.z), (0xD0, .bne rel, !p.z),
   (0x30, .bmi rel, p.n), (0x10, .bpl rel, !p.n), (0x50, .bvc rel, !p.v), (0x70, .bvs rel, p.v)]

/-- The target of a branch whose next sequential instruction is at `pc` (R115). -/
def branchTo (pc : Word) (rel : Byte) : Word := BitVec.ofInt 16 ((pc.toNat : Int) + signed rel)

/-- What ASL, LSR, ROL and ROR make of a byte and the old carry: the result and the bit shifted out, as numbers (R165 to
R168). -/
def aslOf (v : Byte) (_c : Bool) : Byte × Bool := (BitVec.ofNat 8 (2 * v.toNat), decide (128 ≤ v.toNat))
def lsrOf (v : Byte) (_c : Bool) : Byte × Bool := (BitVec.ofNat 8 (v.toNat / 2), decide (v.toNat % 2 = 1))
def rolOf (v : Byte) (c : Bool) : Byte × Bool := (BitVec.ofNat 8 (2 * v.toNat + c.toNat), decide (128 ≤ v.toNat))
def rorOf (v : Byte) (c : Bool) : Byte × Bool :=
  (BitVec.ofNat 8 (v.toNat / 2 + 128 * c.toNat), decide (v.toNat % 2 = 1))

/-- A, C, V, Z and N after adding `m` and the carry to A (R141): exact sums, then the bounds. -/
def summed (s : State) (m : Byte) : State :=
  let sum := s.a.toNat + m.toNat + s.p.c.toNat
  let ssum := signed s.a + signed m + s.p.c.toNat
  { s with
    a := BitVec.ofNat 8 sum
    p := zn (BitVec.ofNat 8 sum) { s.p with c := decide (255 < sum), v := decide (ssum < -128 ∨ 127 < ssum) } }

/-- P after `Compare(reg, m)` (R143): C when reg >= m unsigned, Z and N from the difference mod 256. -/
def compared (reg m : Byte) (p : Status) : Status :=
  zn (BitVec.ofInt 8 ((reg.toNat : Int) - m.toNat)) { p with c := decide (m.toNat ≤ reg.toNat) }

/-- A byte plus 1 and minus 1, mod 256 (R146, R149). -/
def plusOne (v : Byte) : Byte := BitVec.ofNat 8 (v.toNat + 1)
def minusOne (v : Byte) : Byte := BitVec.ofNat 8 (v.toNat + 255)

/-- A shift or rotate of A (R165 to R168): A, C, Z and N, and nothing else. -/
def ShiftsA (op : Byte) (i : Instr) (f : Byte → Bool → Byte × Bool) : Prop :=
  encode i = [op] ∧ ∀ s : State,
    exec i s = .next
      { s with
        a := (f s.a s.p.c).1
        p := zn (f s.a s.p.c).1 { s.p with c := (f s.a s.p.c).2 }
        elapsed := s.elapsed + base s op }

/-- A read-modify-write of the byte at the effective address with new value `r` and new status `p` (R160, R146): one
read, one write, same address, and no register. -/
def Modifies (op : Byte) (i : Instr) (o : MemOperand) (s : State) (r : Byte) (p : Status) : Prop :=
  encode i = op :: operandBytes o ∧ ∃ m, MemoryAfter s [(address o s, r)] m ∧
    exec i s = .next
      { afterEvents (pointerReads o s ++ [dataRead o s, .write (address o s) r]) s with
        mem := m
        p := p
        elapsed := s.elapsed + base s op }

/-- A shift or rotate of memory, in every memory form of a mnemonic (R165 to R168). -/
def ShiftsMemory (forms : MemOperand → Option (Byte × Instr)) (f : Byte → Bool → Byte × Bool) : Prop :=
  ∀ o op i s, State.Inv s → forms o = some (op, i) →
    Modifies op i o s (f (operandByte o s) s.p.c).1
      (zn (f (operandByte o s) s.p.c).1 { s.p with c := (f (operandByte o s) s.p.c).2 })

/-- A reading instruction in every form of a mnemonic: its encoding, its reads, its cycles, and the registers and flags
`f` makes of the state and the operand byte; nothing else changes. -/
def ReadsInto (forms : ReadOperand → Option (Byte × Instr)) (f : State → Byte → State) : Prop :=
  ∀ o op i s, forms o = some (op, i) →
    encode i = op :: readBytes o ∧
    exec i s = .next
      { afterEvents (reads o s) (f s (value o s)) with elapsed := s.elapsed + base s op + crossCycles o s }

/-- A store of the byte `v s` in every form of a mnemonic (R120, R124): one write at the effective address, no data
read; no register and no flag changes. -/
def StoresByte (forms : MemOperand → Option (Byte × Instr)) (v : State → Byte) : Prop :=
  ∀ o op i s, State.Inv s → forms o = some (op, i) →
    encode i = op :: operandBytes o ∧ ∃ m, MemoryAfter s [(address o s, v s)] m ∧
      exec i s = .next
        { afterEvents (pointerReads o s ++ [.write (address o s) (v s)]) s with
          mem := m
          elapsed := s.elapsed + base s op }

/-- An instruction of one byte that makes no bus access and turns `s` into `t s`, its cycles apart. -/
def Implied (op : Byte) (i : Instr) (t : State → State) : Prop :=
  encode i = [op] ∧ ∀ s : State, exec i s = .next { t s with elapsed := s.elapsed + base s op }

end Sys2Proof.Claims

open Sys2Proof Sys2Proof.Machine Sys2Proof.Claims

/-! ### Encoding -/

/-- Words written out from R84, one or more for each family, decode to the instruction they stand for (R83, R84). That
the illegal byte takes no operand byte is log 7, and the two rejections are log 8: the model's choice (DEDUCED). -/
def Obligations.SpecWordsDecode : Prop :=
  decode [0xA9, 0x05] = .ok (.ldaImm 0x05, []) ∧ decode [0x69, 0x01] = .ok (.adcImm 0x01, []) ∧
  decode [0xBD, 0xF0, 0x12] = .ok (.ldaAbsX 0x12F0, []) ∧ decode [0x96, 0x10, 0xEA] = .ok (.stxZpY 0x10, [0xEA]) ∧
  decode [0x31, 0x86] = .ok (.andIndY 0x86, []) ∧ decode [0x6A] = .ok (.rorA, []) ∧ decode [0x28] = .ok (.plp, []) ∧
  decode [0x6C, 0x34, 0x12] = .ok (.jmpInd 0x1234, []) ∧ decode [0xD0, 0xFB] = .ok (.bne 0xFB, []) ∧
  decode [0x00, 0xFF] = .ok (.brk, [0xFF]) ∧ decode [0x02, 0xA9] = .ok (.ill 0x02, [0xA9]) ∧
  decode [] = .error .noOpcode ∧ decode [0xAD, 0x34] = .error .missingOperand

/-- Decoding the encoding of any well-formed instruction gives it back, with every operand and the bytes after it. -/
def Obligations.DecodeOfEncodeIsIdentity : Prop :=
  ∀ (i : Instr) (rest : List Byte), i.wellFormed = true → decode (encode i ++ rest) = .ok (i, rest)

/-- What the decoder reads is well formed and is the encoding of what it gives: each sequence of bytes has one reading.
-/
def Obligations.EncodeOfDecodeIsIdentity : Prop :=
  ∀ (bytes rest : List Byte) (i : Instr), decode bytes = .ok (i, rest) → i.wellFormed = true ∧ bytes = encode i ++ rest

/-- Every opcode byte decodes, takes as many bytes as its mode says, and is the fallback Operation exactly on R91's list
(R81, R91, R92). That an illegal byte takes no operand byte here, its ILLEGAL_OPERAND_BYTES being stepped over by its
meaning, is the model's choice (log 7, DEDUCED). -/
def Obligations.EveryOpcodeByteDecodes : Prop :=
  ∀ (op b1 b2 : Byte) (rest : List Byte), ∃ i,
    decode (op :: b1 :: b2 :: rest) = .ok (i, (b1 :: b2 :: rest).drop (operandWidth op)) ∧
    ((∃ o, i = .ill o) ↔ isIllegal op = true)

/-! ### The status byte and memory -/

/-- The layout of P (R25): each flag at its bit; bit 5 always 1. -/
def Obligations.StatusByteLayout : Prop :=
  ∀ p : Status, p.toByte.getLsbD 0 = p.c ∧ p.toByte.getLsbD 1 = p.z ∧ p.toByte.getLsbD 2 = p.i ∧
    p.toByte.getLsbD 3 = p.d ∧ p.toByte.getLsbD 4 = p.b ∧ p.toByte.getLsbD 5 = true ∧ p.toByte.getLsbD 6 = p.v ∧
    p.toByte.getLsbD 7 = p.n

/-- A write changes its own byte and no other, and keeps the canonical form; equal bytes are equal memories (R50, R61).
-/
def Obligations.WriteChangesOneByte : Prop :=
  (∀ (m : Memory) (a : Word) (v : Byte), m.wf = true →
    MemoryIs (m.write a.toNat v) (fun b => if b = a then v else m.read b.toNat)) ∧
  (∀ m m' : Memory, m.wf = true → m'.wf = true → (∀ a : Word, m.read a.toNat = m'.read a.toNat) → m = m')

/-- The bus is total and makes one event of an access (R51, R52): a read returns some byte (the free answer where the
bus is not plain memory, log 10) and changes nothing else of the machine; a write is accepted and changes at most its
own byte; and where the bus is plain memory (log 1) a written byte is what every later read returns (R61). -/
def Obligations.BusAnswersEveryAccess : Prop :=
  ∀ (addr : Word) (v : Byte) (s : State),
    read8 addr s = (answer s 0 addr, afterEvents [readOf s 0 addr] s) ∧
    (s.isPlain addr = false → write8 addr v s = afterEvents [.write addr v] s) ∧
    (s.Inv → ∃ m, MemoryAfter s [(addr, v)] m ∧ write8 addr v s = { afterEvents [.write addr v] s with mem := m }) ∧
    (s.Inv → s.isPlain addr = true → ∀ k, answer (write8 addr v s) k addr = v)

/-- The accessors show every register, P as a byte and each named flag, which is its bit of that byte (R12, R38, R25).
-/
def Obligations.AccessorsShowRegistersAndFlags : Prop :=
  ∀ s : State,
    let r := accessors s
    (r.a, r.x, r.y, r.sp, r.pc, r.p) = (s.a, s.x, s.y, s.sp, s.pc, s.p.toByte) ∧
    r.carry = s.p.c ∧ r.zero = s.p.z ∧ r.interruptDisable = s.p.i ∧ r.decimal = s.p.d ∧ r.brk = s.p.b ∧
    r.overflow = s.p.v ∧ r.negative = s.p.n ∧
    r.p.getLsbD 0 = r.carry ∧ r.p.getLsbD 1 = r.zero ∧ r.p.getLsbD 2 = r.interruptDisable ∧
    r.p.getLsbD 3 = r.decimal ∧ r.p.getLsbD 4 = r.brk ∧ r.p.getLsbD 6 = r.overflow ∧ r.p.getLsbD 7 = r.negative

/-! ### Addressing modes -/

/-- `Resolve` of every memory mode gives the address, the page-cross result and the pointer reads of R118's table, and
changes nothing else. -/
def Obligations.ResolveFollowsModeTable : Prop :=
  ∀ (o : MemOperand) (s : State),
    resolve o s = { addr := address o s, crossed := crossed o s, after := afterEvents (pointerReads o s) s }

/-! ### Load, store, transfer -/

/-- LDA, LDX, LDY (R121, R122, R123). -/
def Obligations.LoadsPutTheByteInTheRegister : Prop :=
  ReadsInto ldaForm (fun s v => { s with a := v, p := zn v s.p }) ∧
  ReadsInto ldxForm (fun s v => { s with x := v, p := zn v s.p }) ∧
  ReadsInto ldyForm (fun s v => { s with y := v, p := zn v s.p })

/-- STA, STX, STY (R124, R125, R126); the cycle counts of STA's indexed forms, which no page cross changes. -/
def Obligations.StoresWriteTheRegister : Prop :=
  taken 0x9D = 5 ∧ taken 0x99 = 5 ∧ taken 0x91 = 6 ∧
  StoresByte staForm (fun s => s.a) ∧ StoresByte stxForm (fun s => s.x) ∧ StoresByte styForm (fun s => s.y)

/-- TAX, TAY, TXA, TYA, TXS, TSX (R127 to R132); TXS writes no flag. -/
def Obligations.TransfersCopyTheRegister : Prop :=
  (∀ op ∈ [(0xAA : Byte), 0xA8, 0x8A, 0x98, 0x9A, 0xBA], taken op = 2) ∧
  Implied 0xAA .tax (fun s => { s with x := s.a, p := zn s.a s.p }) ∧
  Implied 0xA8 .tay (fun s => { s with y := s.a, p := zn s.a s.p }) ∧
  Implied 0x8A .txa (fun s => { s with a := s.x, p := zn s.x s.p }) ∧
  Implied 0x98 .tya (fun s => { s with a := s.y, p := zn s.y s.p }) ∧
  Implied 0x9A .txs (fun s => { s with sp := s.x }) ∧
  Implied 0xBA .tsx (fun s => { s with x := s.sp, p := zn s.sp s.p })

/-! ### Arithmetic and compare -/

/-- The adder (R140): the 9-bit sum, and the overflow in each of the rule's three ways. -/
def Obligations.AdderFollowsNineBitSum : Prop :=
  ∀ (a m : Byte) (c : Bool),
    (addWithCarry a m c).value.toNat = (a.toNat + m.toNat + c.toNat) % 256 ∧
    ((addWithCarry a m c).carry = true ↔ 255 < a.toNat + m.toNat + c.toNat) ∧
    ((addWithCarry a m c).overflow = true ↔
      a.getLsbD 7 = m.getLsbD 7 ∧ a.getLsbD 7 ≠ (addWithCarry a m c).value.getLsbD 7) ∧
    ((addWithCarry a m c).overflow = true ↔
      signed a + signed m + c.toNat < -128 ∨ 127 < signed a + signed m + c.toNat) ∧
    ((addWithCarry a m c).overflow =
      ((decide (127 < a.toNat % 128 + m.toNat % 128 + c.toNat)) ^^ (addWithCarry a m c).carry))

/-- ADC (R141): the binary sum whatever D is, C from the 9-bit sum, V from the signed sum. -/
def Obligations.AdcAddsWithCarry : Prop := ReadsInto adcForm (fun s m => summed s m)

/-- SBC (R142): ADC with M complemented, A + (~M) + C. -/
def Obligations.SbcAddsTheComplement : Prop := ReadsInto sbcForm (fun s m => summed s (m ^^^ 0xFF))

/-- SBC as a difference, which R142 derives: A - M - (1 - C), C when there is no borrow, V from the signed difference.
-/
def Obligations.SbcSubtractsWithBorrow : Prop :=
  ReadsInto sbcForm (fun s m =>
    let diff : Int := (s.a.toNat : Int) - m.toNat - (1 - s.p.c.toNat)
    let sdiff : Int := signed s.a - signed m - (1 - s.p.c.toNat)
    { s with
      a := BitVec.ofInt 8 diff
      p := zn (BitVec.ofInt 8 diff) { s.p with c := decide (0 ≤ diff), v := decide (sdiff < -128 ∨ 127 < sdiff) } })

/-- CMP, CPX, CPY (R143, R144, R145): flags only, V not among them. -/
def Obligations.ComparesSetCarryZeroNegative : Prop :=
  ReadsInto cmpForm (fun s m => { s with p := compared s.a m s.p }) ∧
  ReadsInto cpxForm (fun s m => { s with p := compared s.x m s.p }) ∧
  ReadsInto cpyForm (fun s m => { s with p := compared s.y m s.p })

/-- INC and DEC of memory (R146, R149). -/
def Obligations.IncDecModifyMemory : Prop :=
  (∀ o op i s, State.Inv s → incForm o = some (op, i) →
    Modifies op i o s (plusOne (operandByte o s)) (zn (plusOne (operandByte o s)) s.p)) ∧
  (∀ o op i s, State.Inv s → decForm o = some (op, i) →
    Modifies op i o s (minusOne (operandByte o s)) (zn (minusOne (operandByte o s)) s.p))

/-- INX, INY, DEX, DEY (R147, R148, R150, R151): mod 256, neither C nor V. -/
def Obligations.IndexIncDecWrap : Prop :=
  Implied 0xE8 .inx (fun s => { s with x := plusOne s.x, p := zn (plusOne s.x) s.p }) ∧
  Implied 0xC8 .iny (fun s => { s with y := plusOne s.y, p := zn (plusOne s.y) s.p }) ∧
  Implied 0xCA .dex (fun s => { s with x := minusOne s.x, p := zn (minusOne s.x) s.p }) ∧
  Implied 0x88 .dey (fun s => { s with y := minusOne s.y, p := zn (minusOne s.y) s.p })

/-! ### Logic, bit test, shifts -/

/-- AND, ORA, EOR (R161, R162, R163). -/
def Obligations.LogicCombinesWithA : Prop :=
  ReadsInto andForm (fun s m => { s with a := s.a &&& m, p := zn (s.a &&& m) s.p }) ∧
  ReadsInto oraForm (fun s m => { s with a := s.a ||| m, p := zn (s.a ||| m) s.p }) ∧
  ReadsInto eorForm (fun s m => { s with a := s.a ^^^ m, p := zn (s.a ^^^ m) s.p })

/-- BIT (R164): Z from the and; N and V from bits 7 and 6 of the memory byte. -/
def Obligations.BitTestsMemory : Prop :=
  ∀ o op i s, bitForm o = some (op, i) →
    let m := operandByte o s
    encode i = op :: operandBytes o ∧
    exec i s = .next
      { afterEvents (reads (.memory o) s) s with
        p := { s.p with z := decide (s.a &&& m = 0), n := decide (128 ≤ m.toNat), v := decide (64 ≤ m.toNat % 128) }
        elapsed := s.elapsed + base s op }

/-- ASL, LSR, ROL, ROR of A and of memory (R165 to R168). -/
def Obligations.ShiftsMoveThroughCarry : Prop :=
  ShiftsA 0x0A .aslA aslOf ∧ ShiftsA 0x4A .lsrA lsrOf ∧ ShiftsA 0x2A .rolA rolOf ∧ ShiftsA 0x6A .rorA rorOf ∧
  ShiftsMemory aslForm aslOf ∧ ShiftsMemory lsrForm lsrOf ∧ ShiftsMemory rolForm rolOf ∧ ShiftsMemory rorForm rorOf

/-! ### Stack and flags -/

/-- PHA and PHP (R181, R182): one byte pushed; PHP's copy has bits 4 and 5 set; P itself does not change. -/
def Obligations.PushesWriteTheStack : Prop :=
  ∀ s : State, s.Inv → ∀ op i v, (op, i, v) ∈ [((0x48 : Byte), Instr.pha, s.a), (0x08, .php, s.p.toByte ||| 0x30)] →
    encode i = [op] ∧ ∃ m, MemoryAfter s [(pushAt s 1, v)] m ∧
      exec i s = .next
        { afterEvents [.write (pushAt s 1) v] s with
          sp := s.sp - 1
          mem := m
          elapsed := s.elapsed + base s op }

/-- PLA and PLP (R183, R184): one byte pulled; PLP leaves P with B 0 and bit 5 1. -/
def Obligations.PullsReadTheStack : Prop :=
  encode .pla = [0x68] ∧ encode .plp = [0x28] ∧
  ∀ s : State,
    let v := answer s 0 (pullAt s 1)
    exec .pla s = .next
      { afterEvents [readOf s 0 (pullAt s 1)] s with
        a := v
        p := zn v s.p
        sp := s.sp + 1
        elapsed := s.elapsed + base s 0x68 } ∧
    ∃ q : Status, q.toByte = (v &&& 0xCF) ||| 0x20 ∧
      exec .plp s = .next
        { afterEvents [readOf s 0 (pullAt s 1)] s with
          p := q
          sp := s.sp + 1
          elapsed := s.elapsed + base s 0x28 }

/-- The seven flag instructions and NOP (R185 to R192): one flag, or nothing. -/
def Obligations.FlagInstructionsChangeOneFlag : Prop :=
  (∀ op ∈ [(0x18 : Byte), 0x38, 0x58, 0x78, 0xB8, 0xD8, 0xF8, 0xEA], taken op = 2) ∧
  Implied 0x18 .clc (fun s => { s with p := { s.p with c := false } }) ∧
  Implied 0x38 .sec (fun s => { s with p := { s.p with c := true } }) ∧
  Implied 0x58 .cli (fun s => { s with p := { s.p with i := false } }) ∧
  Implied 0x78 .sei (fun s => { s with p := { s.p with i := true } }) ∧
  Implied 0xB8 .clv (fun s => { s with p := { s.p with v := false } }) ∧
  Implied 0xD8 .cld (fun s => { s with p := { s.p with d := false } }) ∧
  Implied 0xF8 .sed (fun s => { s with p := { s.p with d := true } }) ∧
  Implied 0xEA .nop (fun s => s)

/-- A byte pushed to plain memory and then pulled comes back, with SP as it was, for both stack orders (R27, R28, R61).
-/
def Obligations.PullUndoesPush : Prop :=
  ∀ (v : Byte) (s : State), s.Inv → s.isPlain (pushAt s 1) = true →
    (pull8 (push8 v s)).1 = v ∧ (pull8 (push8 v s)).2.sp = s.sp ∧ (pull8 (push8 v s)).2.mem = (push8 v s).mem

/-! ### Control transfer -/

/-- JMP (R201, R112). -/
def Obligations.JumpGoesToTheOperand : Prop :=
  ∀ o op i s, jmpForm o = some (op, i) →
    encode i = op :: operandBytes o ∧
    exec i s = .next
      { afterEvents (pointerReads o s) s with pc := address o s, elapsed := s.elapsed + base s op }

/-- JSR (R202): `s.pc` is the address after the JSR; the address before it is pushed, high byte first. -/
def Obligations.JsrPushesReturnMinusOne : Prop :=
  taken 0x20 = 6 ∧
  ∀ (target : Word) (s : State), s.Inv →
    let ret : Word := BitVec.ofNat 16 (s.pc.toNat + 65535)
    let ws := [(pushAt s 1, hiByte ret), (pushAt s 2, loByte ret)]
    encode (.jsrAbs target) = [0x20, loByte target, hiByte target] ∧
    ∃ m, MemoryAfter s ws m ∧
      exec (.jsrAbs target) s = .next
        { afterEvents (writeEvents ws) s with
          pc := target
          sp := s.sp - 2
          mem := m
          elapsed := s.elapsed + base s 0x20 }

/-- RTS (R203). -/
def Obligations.RtsPullsAndAddsOne : Prop :=
  taken 0x60 = 6 ∧ encode .rts = [0x60] ∧ ∀ s : State,
    exec .rts s = .next
      { afterEvents [readOf s 0 (pullAt s 1), readOf s 1 (pullAt s 2)] s with
        pc := BitVec.ofNat 16 ((word (answer s 1 (pullAt s 2)) (answer s 0 (pullAt s 1))).toNat + 1)
        sp := s.sp + 2
        elapsed := s.elapsed + base s 0x60 }

/-- JSR followed by RTS resumes after the JSR with SP as before, wherever the RTS stands, for both stack orders, where
the two stack bytes are plain memory (R216). -/
def Obligations.RtsUndoesJsr : Prop :=
  ∀ (target at_ : Word) (s : State), s.Inv → s.isPlain (pushAt s 1) = true → s.isPlain (pushAt s 2) = true →
    ∃ t u, exec (.jsrAbs target) s = .next t ∧ t.pc = target ∧ exec .rts { t with pc := at_ } = .next u ∧
      u.pc = s.pc ∧ u.sp = s.sp ∧ u.a = s.a ∧ u.x = s.x ∧ u.y = s.y ∧ u.p = s.p

/-- The entry sequence (R236), for both vectors and both values of the pushed bit 4, and who calls it with which. -/
def Obligations.InterruptEntrySavesAndVectors : Prop :=
  (∀ (vector : Word) (b : Bool) (s : State), s.Inv → vector = 0xFFFA ∨ vector = 0xFFFE →
    ∃ m, MemoryAfter s (entryWrites s s.pc b) m ∧
      interruptEntry vector b s =
        { afterEvents (writeEvents (entryWrites s s.pc b) ++ [readOf s 3 vector, readOf s 4 (vector + 1)]) s with
          pc := vectorAt s 3 vector
          sp := s.sp - 3
          p := { s.p with b := false, i := true }
          mem := m }) ∧
  (∀ s : State, service .nmi s =
    (let t := interruptEntry 0xFFFA s.cfg.pushBOnHwInterrupt { s with pendingNmi := false }
     { t with elapsed := t.elapsed + s.cfg.interruptCycles })) ∧
  (∀ s : State, service .irq s =
    (let t := interruptEntry 0xFFFE s.cfg.pushBOnHwInterrupt { s with pendingIrq := false }
     { t with elapsed := t.elapsed + s.cfg.interruptCycles }))

/-- BRK (R204): `s.pc` is one past its opcode; the opcode's address plus BRK_PC_PUSH_OFFSET is pushed; I is no
condition. -/
def Obligations.BrkEntersThroughIrqVector : Prop :=
  encode .brk = [0x00] ∧ ∀ s : State, s.Inv →
    let ret : Word := if s.cfg.brkPcPushOffset = 2 then BitVec.ofNat 16 (s.pc.toNat + 1) else s.pc
    ∃ m, MemoryAfter s (entryWrites s ret true) m ∧
      exec .brk s = .next
        { afterEvents (writeEvents (entryWrites s ret true) ++ [readOf s 3 0xFFFE, readOf s 4 0xFFFF]) s with
          pc := vectorAt s 3 0xFFFE
          sp := s.sp - 3
          p := { s.p with b := false, i := true }
          mem := m
          elapsed := s.elapsed + base s 0x00 }

/-- RTI (R205): P, then PC low, then PC high; B 0, bit 5 1; no 1 is added. -/
def Obligations.RtiRestoresStatusAndPc : Prop :=
  encode .rti = [0x40] ∧ ∀ s : State,
    ∃ q : Status, q.toByte = (answer s 0 (pullAt s 1) &&& 0xCF) ||| 0x20 ∧
      exec .rti s = .next
        { afterEvents [readOf s 0 (pullAt s 1), readOf s 1 (pullAt s 2), readOf s 2 (pullAt s 3)] s with
          p := q
          pc := word (answer s 2 (pullAt s 3)) (answer s 1 (pullAt s 2))
          sp := s.sp + 3
          elapsed := s.elapsed + base s 0x40 }

/-- RTI from a handler that left the stack as it found it resumes where the interrupt struck, with the flags of then,
and RTI after BRK resumes at the address BRK pushed, where the three stack bytes are plain memory (R238, R239, R205,
R61). -/
def Obligations.RtiUndoesEntry : Prop :=
  ∀ (at_ : Word) (s : State), s.Inv →
    s.isPlain (pushAt s 1) = true → s.isPlain (pushAt s 2) = true → s.isPlain (pushAt s 3) = true →
    (∀ (vector : Word) (b : Bool), vector = 0xFFFA ∨ vector = 0xFFFE →
      ∃ u, exec .rti { interruptEntry vector b s with pc := at_ } = .next u ∧ u.pc = s.pc ∧ u.sp = s.sp ∧
        u.p = { s.p with b := false } ∧ u.a = s.a ∧ u.x = s.x ∧ u.y = s.y) ∧
    (∃ t u, exec .brk s = .next t ∧ exec .rti { t with pc := at_ } = .next u ∧ u.sp = s.sp ∧
      u.p = { s.p with b := false } ∧
      u.pc = (if s.cfg.brkPcPushOffset = 2 then BitVec.ofNat 16 (s.pc.toNat + 1) else s.pc))

/-- The eight branches (R206 to R214): `s.pc` is the address after the branch; PC and the cycles, and nothing else. -/
def Obligations.BranchesFollowTheirFlag : Prop :=
  ∀ (rel op : Byte) (i : Instr) (taken : Bool) (s : State), (op, i, taken) ∈ branchForms rel s.p →
    encode i = [op, rel] ∧
    (taken = true → exec i s = .next
      { s with
        pc := branchTo s.pc rel
        elapsed := s.elapsed + base s op +
          (if s.pc.toNat / 256 = (branchTo s.pc rel).toNat / 256 then 1 else 2) }) ∧
    (taken = false → exec i s = .next { s with elapsed := s.elapsed + base s op })

/-- The fallback Operation (R90): `s.pc` is one past the opcode; PC and the cycles, and nothing else. That its encoding
is the opcode byte alone is log 7. -/
def Obligations.IllegalOpcodeIsInert : Prop :=
  ∀ (op : Byte) (s : State), isIllegal op = true →
    encode (.ill op) = [op] ∧
    exec (.ill op) s = .next
      { s with
        pc := BitVec.ofNat 16 (s.pc.toNat + s.cfg.illegalOperandBytes)
        elapsed := s.elapsed + s.cfg.illegalCycles }

/-! ### The step, interrupts, reset, run state -/

/-- The bytes the bus returns at PC decode to `i`: `ExecuteOne` reads exactly the bytes of `i`, in ascending order,
moves PC past them and runs `i`; and a step with no interrupt due is that, with its outputs started empty (R82, R101,
R240). -/
def Obligations.StepRunsTheDecodedInstruction : Prop :=
  ∀ (s : State) (i : Instr) (rest : List Byte),
    decode [answer s 0 s.pc, answer s 1 (s.pc + 1), answer s 2 (s.pc + 2)] = .ok (i, rest) →
    let n := (encode i).length
    let fetched := (List.range n).map (fun k => readOf s k (s.pc + BitVec.ofNat 16 k))
    executeOne s = exec i { afterEvents fetched s with pc := s.pc + BitVec.ofNat 16 n } ∧
    (s.runState = .running → s.pendingNmi = false → (s.pendingIrq = false ∨ s.p.i = true) →
      step s = exec i
        { s with
          pc := s.pc + BitVec.ofNat 16 n
          elapsed := 0
          bus := fetched
          portEvents := s.portEvents + n })

/-- A step services NMI first, else an unmasked IRQ, at most one of them, and then executes one instruction (R235, R240,
R241). -/
def Obligations.StepServicesAtMostOneInterrupt : Prop :=
  ∀ s : State, s.runState = .running →
    (s.pendingNmi = true →
      step s = executeOne (service .nmi { s with elapsed := 0, bus := [] })) ∧
    (s.pendingNmi = false → s.pendingIrq = true → s.p.i = false →
      step s = executeOne (service .irq { s with elapsed := 0, bus := [] })) ∧
    (s.pendingNmi = false → (s.pendingIrq = false ∨ s.p.i = true) →
      step s = executeOne { s with elapsed := 0, bus := [] })

/-- What a step leaves of the latches: a due interrupt's latch is cleared, a masked or waiting IRQ stays latched, and no
latch is ever set by a step (R32, R233, R235). -/
def Obligations.LatchesClearOnlyWhenServiced : Prop :=
  ∀ s t : State, step s = .next t →
    t.pendingNmi = false ∧ (t.pendingIrq = (s.pendingIrq && (s.pendingNmi || s.p.i)))

/-- A step stops exactly while Halted, with the error value; while Running it always answers a next state (R230, R240,
R252). That the error value is the fault outcome of a step, and no next state, is the model's choice (log 9, DEDUCED).
-/
def Obligations.StepStopsExactlyWhileHalted : Prop :=
  ∀ s : State, (s.runState = .halted → step s = .fault .steppedWhileHalted) ∧
    (s.runState = .running → ∃ t, step s = .next t ∧ t.runState = .running)

/-- No instruction, on any operand, in any state and on any bus, faults or is refused; none touches a latch, the run
state, a parameter or the address map (R230, R32, R33, R52). -/
def Obligations.EveryInstructionCompletes : Prop :=
  ∀ (i : Instr) (s : State), ∃ t, exec i s = .next t ∧ t.pendingNmi = s.pendingNmi ∧ t.pendingIrq = s.pendingIrq ∧
    t.runState = s.runState ∧ t.cfg = s.cfg ∧ t.addressMap = s.addressMap

/-- `reset()` (R272): PC, SP, I, the latches and the run state; two vector reads and no write. The latches, the run
state and what is kept are R272's decisions (D16, D18, D19); that `elapsed` is 0 after it is the model's output field
(log 3). -/
def Obligations.ResetKeepsTheRest : Prop :=
  ∀ s : State, hardwareReset s =
    { s with
      pc := vectorAt s 0 0xFFFC
      sp := s.sp - 3
      p := { s.p with i := true }
      pendingNmi := false
      pendingIrq := false
      runState := .running
      elapsed := 0
      bus := [readOf s 0 0xFFFC, readOf s 1 0xFFFD]
      portEvents := s.portEvents + 2 }

/-- `PowerUp()` (R270) on any bus and parameters, and the P byte it leaves: `returned n a` is what the bus answers when
event number `n` is a read of `a`. -/
def Obligations.PowerUpValues : Prop :=
  ∀ (cfg : Config) (map : List Region) (mem : Memory),
    let returned (n : Nat) (a : Word) : Byte := if plainIn map a then mem.read a.toNat else Config.busAnswer n a
    let s := powerUp cfg map mem
    s.a = 0x00 ∧ s.x = 0x00 ∧ s.y = 0x00 ∧ s.p.toByte = 0x34 ∧ s.sp = 0xFD ∧ s.pendingNmi = false ∧
    s.pendingIrq = false ∧ s.runState = .running ∧ s.pc = word (returned 1 0xFFFD) (returned 0 0xFFFC) ∧ s.mem = mem ∧
    s.addressMap = map ∧ s.cfg = cfg ∧ s.bus = [.read 0xFFFC (returned 0 0xFFFC), .read 0xFFFD (returned 1 0xFFFD)] ∧
    s.portEvents = 2

/-- The reset state is `PowerUp()` on a bus that is plain memory throughout and lists nothing. That such a bus reads
0x00, so that PC is 0x0000, is the model's choice (log 1, log 4). -/
def Obligations.ResetStateIsPowerUp : Prop :=
  State.reset = powerUp Config.taken [] [] ∧ State.reset.pc = 0x0000

/-- `requestInterrupt` sets one latch and `stop` the run state, and nothing else (R233, R250). -/
def Obligations.RequestAndStopChangeOneElement : Prop :=
  ∀ s : State, requestInterrupt .nmi s = { s with pendingNmi := true } ∧
    requestInterrupt .irq s = { s with pendingIrq := true } ∧ stop s = { s with runState := .halted }

/-- A step sees a store of the step before it: the byte stored at the next PC, where the bus is plain memory, is the
opcode the next step reads (R63, R61). -/
def Obligations.StoreIsSeenByTheNextFetch : Prop :=
  ∀ s : State, s.Inv → s.isPlain s.pc = true → ∃ t, exec (.staAbs s.pc) s = .next t ∧ t.pc = s.pc ∧ (fetchByte t).1 = s.a

/-! ### Whole-machine rules -/

/-- The invariant holds at reset. -/
def Obligations.InvAtReset : Prop := State.reset.Inv

/-- Every step keeps the invariant: memory stays canonical and the parameters stay in range. -/
def Obligations.InvKeptByEveryStep : Prop := ∀ s t : State, s.Inv → step s = .next t → t.Inv

/-- Every call of the environment keeps the invariant, so every run of calls does. -/
def Obligations.InvKeptByEveryRun : Prop :=
  ∀ (cs : List Call) (s t : State), s.Inv → Runs cs s t → t.Inv

/-- The control interface reports an error only for a step while Halted: a list of calls without `stop`, from a Running
machine, runs to its end (R230, R252). That the error value is the fault outcome of a step is log 9. -/
def Obligations.RunsWithoutStopAreSafe : Prop :=
  ∀ (cs : List Call) (s : State), Call.stop ∉ cs → s.runState = .running → SafeRun cs s

/-- The bus events of a step account for everything it does to memory and everything it learns from the bus: replayed
from the bytes before the step they give the bytes after it, every read reports the byte that stands there or the
environment's answer to that event, and the count of events goes on by theirs (R52, R57, R60, R61). -/
def Obligations.BusEventsReplayEveryStep : Prop :=
  ∀ s t : State, s.Inv → step s = .next t →
    Replays s.isPlain s.portEvents s.byteAt t.bus t.byteAt ∧ t.portEvents = s.portEvents + t.bus.length ∧
    t.addressMap = s.addressMap

/-- A flag changes only by the instructions R29 lists for it. -/
def Obligations.FlagsChangeOnlyByTheirWriters : Prop :=
  ∀ (i : Instr) (s t : State), exec i s = .next t →
    (t.p.c ≠ s.p.c → i.mnemonic ∈
      ["ADC", "SBC", "CMP", "CPX", "CPY", "ASL", "LSR", "ROL", "ROR", "CLC", "SEC", "PLP", "RTI"]) ∧
    ((t.p.z ≠ s.p.z ∨ t.p.n ≠ s.p.n) → i.mnemonic ∈
      ["ADC", "SBC", "CMP", "CPX", "CPY", "ASL", "LSR", "ROL", "ROR", "LDA", "LDX", "LDY", "TAX", "TAY", "TXA", "TYA",
       "TSX", "INC", "INX", "INY", "DEC", "DEX", "DEY", "AND", "ORA", "EOR", "BIT", "PLA", "PLP", "RTI"]) ∧
    (t.p.i ≠ s.p.i → i.mnemonic ∈ ["SEI", "CLI", "PLP", "RTI", "BRK"]) ∧
    (t.p.d ≠ s.p.d → i.mnemonic ∈ ["SED", "CLD", "PLP", "RTI"]) ∧
    (t.p.b ≠ s.p.b → i.mnemonic ∈ ["BRK", "PLP", "RTI"]) ∧
    (t.p.v ≠ s.p.v → i.mnemonic ∈ ["ADC", "SBC", "BIT", "CLV", "PLP", "RTI"])

/-- A register changes only by the instructions R21 to R24 name for it, and memory only by those of R53. -/
def Obligations.RegistersChangeOnlyByTheirWriters : Prop :=
  ∀ (i : Instr) (s t : State), exec i s = .next t →
    (t.a ≠ s.a → i.mnemonic ∈
      ["ADC", "SBC", "AND", "ORA", "EOR", "LDA", "PLA", "TXA", "TYA", "ASL", "LSR", "ROL", "ROR"]) ∧
    (t.x ≠ s.x → i.mnemonic ∈ ["LDX", "TAX", "TSX", "INX", "DEX"]) ∧
    (t.y ≠ s.y → i.mnemonic ∈ ["LDY", "TAY", "INY", "DEY"]) ∧
    (t.sp ≠ s.sp → i.mnemonic ∈ ["PHA", "PHP", "PLA", "PLP", "JSR", "RTS", "BRK", "RTI", "TXS"]) ∧
    (t.pc ≠ s.pc → i.mnemonic ∈
      ["JMP", "JSR", "RTS", "RTI", "BRK", "BCC", "BCS", "BEQ", "BNE", "BMI", "BPL", "BVC", "BVS", "ILL"]) ∧
    (t.mem ≠ s.mem → i.mnemonic ∈
      ["STA", "STX", "STY", "ASL", "LSR", "ROL", "ROR", "INC", "DEC", "PHA", "PHP", "JSR", "BRK"])

/-- Nothing reads the stored Break bit: two steps from states that differ in it alone end in states that differ in it at
most (R30). -/
def Obligations.NothingReadsTheStoredBreak : Prop :=
  ∀ (s t : State) (b : Bool), step s = .next t →
    ∃ u, step (withBreak b s) = .next u ∧ withBreak false u = withBreak false t

/-- Nothing but the cycle count depends on the timing parameters or the cycle count: two steps from states that agree
otherwise end in states that agree otherwise (R285). -/
def Obligations.CycleCountsAffectNothingElse : Prop :=
  ∀ s s' t : State, timeless s = timeless s' → step s = .next t →
    ∃ t', step s' = .next t' ∧ timeless t = timeless t'

/-- The outputs of one step are not carried into the next (R36): a step is the same whatever they were. -/
def Obligations.OutputsAreNotCarried : Prop :=
  ∀ (s : State) (n : Nat) (es : List BusEvent), step { s with elapsed := n, bus := es } = step s
end

