-- ==== Sys2Proof/Laws/Bits.lean ====
section
/-! SUPPORT. Byte order and extension as arithmetic: what `hi8`, `lo8`, `join`, `zext16` and `sext16` are as numbers, and
how they undo each other. -/

namespace Sys2Proof

theorem hi8_toNat (w : Word) : (hi8 w).toNat = w.toNat / 256 := by
  have := w.isLt
  simp [hi8, Nat.shiftRight_eq_div_pow]
  omega

theorem lo8_toNat (w : Word) : (lo8 w).toNat = w.toNat % 256 := by
  simp [lo8]

theorem join_toNat (hi lo : Byte) : (join hi lo).toNat = hi.toNat * 256 + lo.toNat := by
  have := lo.isLt
  simp only [join, BitVec.toNat_append]
  rw [← Nat.shiftLeft_add_eq_or_of_lt (by omega), Nat.shiftLeft_eq]

theorem zext16_toNat (b : Byte) : (zext16 b).toNat = b.toNat := by
  have := b.isLt
  simp [zext16]
  omega

theorem sext16_toInt (b : Byte) : (sext16 b).toInt = b.toInt := by
  simp [sext16, BitVec.toInt_signExtend_of_le]

@[simp] theorem hi8_join (hi lo : Byte) : hi8 (join hi lo) = hi := by
  have h1 := hi.isLt
  have h2 := lo.isLt
  apply BitVec.eq_of_toNat_eq
  rw [hi8_toNat, join_toNat]
  omega

@[simp] theorem lo8_join (hi lo : Byte) : lo8 (join hi lo) = lo := by
  have h2 := lo.isLt
  apply BitVec.eq_of_toNat_eq
  rw [lo8_toNat, join_toNat]
  omega

@[simp] theorem join_hi8_lo8 (w : Word) : join (hi8 w) (lo8 w) = w := by
  apply BitVec.eq_of_toNat_eq
  rw [join_toNat, hi8_toNat, lo8_toNat]
  omega

/-- Two pairs of bytes make the same word only if they are the same. -/
theorem join_inj {h l h' l' : Byte} : join h l = join h' l' ↔ h = h' ∧ l = l' := by
  constructor
  · intro e
    exact ⟨by simpa using congrArg hi8 e, by simpa using congrArg lo8 e⟩
  · rintro ⟨rfl, rfl⟩
    rfl

end Sys2Proof
end

