-- ==== Sys2Proof/Laws/Memory.lean ====
section
/-! SUPPORT. The laws of memory: what a write changes, that it keeps the canonical form, and that canonical memories with
the same bytes are the same list. -/

namespace Sys2Proof.Machine

@[simp] theorem Memory.read_nil (k : Nat) : Memory.read [] k = unlistedByte := rfl

@[simp] theorem Memory.wf_nil : Memory.wf [] = true := rfl

/-- What the canonical form of a nonempty memory says. -/
theorem Memory.wfFrom_cons (lo a : Nat) (v : Byte) (m : Memory) :
    Memory.wfFrom lo ((a, v) :: m) = true ↔
      lo ≤ a ∧ a < 65536 ∧ v ≠ unlistedByte ∧ Memory.wfFrom (a + 1) m = true := by
  simp [Memory.wfFrom, and_assoc]

/-- A write leaves every other byte alone, in any memory. -/
theorem Memory.read_write_other (m : Memory) (k : Nat) (v : Byte) (j : Nat) (h : j ≠ k) :
    (m.write k v).read j = m.read j := by
  induction m with
  | nil => by_cases hv : v = unlistedByte <;> simp [Memory.write, Memory.read, hv, h.symm]
  | cons e m ih =>
    obtain ⟨a, w⟩ := e
    simp only [Memory.write]
    split
    · by_cases hv : v = unlistedByte <;> simp [Memory.read, hv, h.symm]
    · split
      · rename_i hka
        subst hka
        by_cases hv : v = unlistedByte <;> simp [Memory.read, hv, h.symm]
      · simp only [Memory.read, ih]

/-- Below where a canonical memory begins, nothing is listed. -/
theorem Memory.read_below {lo : Nat} {m : Memory} (h : Memory.wfFrom lo m = true) {k : Nat} (hk : k < lo) :
    m.read k = unlistedByte := by
  induction m generalizing lo with
  | nil => rfl
  | cons e m ih =>
    obtain ⟨a, w⟩ := e
    rw [Memory.wfFrom_cons] at h
    simp only [Memory.read]
    rw [if_neg (by omega)]
    exact ih h.2.2.2 (by omega)

/-- A write is read back, in a canonical memory. -/
theorem Memory.read_write_sameFrom {lo : Nat} {m : Memory} (h : Memory.wfFrom lo m = true) (k : Nat) (v : Byte) :
    (m.write k v).read k = v := by
  induction m generalizing lo with
  | nil => by_cases hv : v = unlistedByte <;> simp [Memory.write, Memory.read, hv]
  | cons e m ih =>
    obtain ⟨a, w⟩ := e
    have hc := (Memory.wfFrom_cons _ _ _ _).1 h
    simp only [Memory.write]
    split
    · by_cases hv : v = unlistedByte
      · simp only [hv, if_true, Memory.read]
        rw [if_neg (by omega)]
        exact Memory.read_below hc.2.2.2 (by omega)
      · simp [Memory.read, hv]
    · split
      · rename_i hka
        subst hka
        by_cases hv : v = unlistedByte
        · simp only [hv, if_true]
          exact Memory.read_below hc.2.2.2 (by omega)
        · simp [Memory.read, hv]
      · rename_i h1 h2
        simp only [Memory.read]
        rw [if_neg (by omega)]
        exact ih hc.2.2.2

theorem Memory.read_write_same {m : Memory} (h : m.wf = true) (k : Nat) (v : Byte) : (m.write k v).read k = v :=
  Memory.read_write_sameFrom h k v

/-- A canonical form may be said to begin lower. -/
theorem Memory.wfFrom_mono {lo lo' : Nat} {m : Memory} (h : Memory.wfFrom lo m = true) (hl : lo' ≤ lo) :
    Memory.wfFrom lo' m = true := by
  cases m with
  | nil => rfl
  | cons e m =>
    obtain ⟨a, w⟩ := e
    rw [Memory.wfFrom_cons] at h ⊢
    exact ⟨by omega, h.2⟩

theorem Memory.wfFrom_write {lo : Nat} {m : Memory} (h : Memory.wfFrom lo m = true) (k : Nat) (hlo : lo ≤ k)
    (hk : k < 65536) (v : Byte) : Memory.wfFrom lo (m.write k v) = true := by
  induction m generalizing lo with
  | nil =>
    by_cases hv : v = unlistedByte
    · simp [Memory.write, hv, Memory.wfFrom]
    · simp only [Memory.write, hv, if_false, Memory.wfFrom_cons]
      exact ⟨hlo, hk, by simpa using hv, rfl⟩
  | cons e m ih =>
    obtain ⟨a, w⟩ := e
    have hc := (Memory.wfFrom_cons _ _ _ _).1 h
    simp only [Memory.write]
    split
    · by_cases hv : v = unlistedByte
      · simpa [hv] using h
      · simp only [hv, if_false]
        rw [Memory.wfFrom_cons]
        refine ⟨hlo, hk, by simpa using hv, ?_⟩
        rw [Memory.wfFrom_cons]
        exact ⟨by omega, hc.2⟩
    · split
      · rename_i hka
        subst hka
        by_cases hv : v = unlistedByte
        · simp only [hv, if_true]
          exact Memory.wfFrom_mono hc.2.2.2 (by omega)
        · simp only [hv, if_false]
          rw [Memory.wfFrom_cons]
          exact ⟨hc.1, hc.2.1, by simpa using hv, hc.2.2.2⟩
      · rw [Memory.wfFrom_cons]
        exact ⟨hc.1, hc.2.1, hc.2.2.1, ih hc.2.2.2 (by omega)⟩

/-- A write keeps the canonical form. -/
theorem Memory.wf_write {m : Memory} (h : m.wf = true) (a : Word) (v : Byte) : (m.write a.toNat v).wf = true :=
  Memory.wfFrom_write h _ (Nat.zero_le _) a.isLt v

/-- Nothing at or above 65536 is listed. -/
theorem Memory.read_above {lo : Nat} {m : Memory} (h : Memory.wfFrom lo m = true) {k : Nat} (hk : 65536 ≤ k) :
    m.read k = unlistedByte := by
  induction m generalizing lo with
  | nil => rfl
  | cons e m ih =>
    obtain ⟨a, w⟩ := e
    rw [Memory.wfFrom_cons] at h
    simp only [Memory.read]
    rw [if_neg (by omega)]
    exact ih h.2.2.2

/-- The canonical form is canonical: memories that read alike everywhere are the same list. -/
theorem Memory.ext_of_readFrom {lo : Nat} {m m' : Memory} (h : Memory.wfFrom lo m = true)
    (h' : Memory.wfFrom lo m' = true) (e : ∀ k, m.read k = m'.read k) : m = m' := by
  induction m generalizing lo m' with
  | nil =>
    cases m' with
    | nil => rfl
    | cons c m' =>
      obtain ⟨a, v⟩ := c
      rw [Memory.wfFrom_cons] at h'
      have := e a
      simp only [Memory.read, if_true] at this
      exact absurd this.symm h'.2.2.1
  | cons c m ih =>
    obtain ⟨a, v⟩ := c
    have hc := (Memory.wfFrom_cons _ _ _ _).1 h
    cases m' with
    | nil =>
      have := e a
      simp only [Memory.read, if_true] at this
      exact absurd this hc.2.2.1
    | cons c' m' =>
      obtain ⟨a', v'⟩ := c'
      have hc' := (Memory.wfFrom_cons _ _ _ _).1 h'
      have haa : a = a' := by
        rcases Nat.lt_trichotomy a a' with hlt | heq | hgt
        · have := e a
          rw [Memory.read, if_pos rfl, Memory.read, if_neg (by omega),
            Memory.read_below hc'.2.2.2 (by omega)] at this
          exact absurd this hc.2.2.1
        · exact heq
        · have := e a'
          rw [Memory.read, if_neg (by omega), Memory.read_below hc.2.2.2 (by omega), Memory.read, if_pos rfl] at this
          exact absurd this.symm hc'.2.2.1
      subst haa
      have hvv : v = v' := by
        have := e a
        rwa [Memory.read, if_pos rfl, Memory.read, if_pos rfl] at this
      subst hvv
      rw [ih hc.2.2.2 hc'.2.2.2 (fun k => ?_)]
      rcases Nat.lt_or_ge a k with hlt | hge
      · have := e k
        rwa [Memory.read, if_neg (by omega), Memory.read, if_neg (by omega)] at this
      · rw [Memory.read_below hc.2.2.2 (by omega), Memory.read_below hc'.2.2.2 (by omega)]

end Sys2Proof.Machine
end

