-- ==== Sys2Proof/Laws/State.lean ====
section
/-! SUPPORT. One lemma for each field of the state under each named update, so that no later proof unfolds an update. -/

namespace Sys2Proof

/-- R288: one base cycle count for each opcode byte value. -/
theorem length_baseCyclesTaken : baseCyclesTaken.length = 256 := by
  simp only [baseCyclesTaken, List.length_flatten]
  rfl

/-- Parameters with the base cycle counts the spec takes are in R6's ranges when their other two ranges hold. -/
theorem Config.wf_of_taken {c : Config} (hb : c.baseCycles = baseCyclesTaken)
    (hk : (c.brkPcPushOffset == 1 || c.brkPcPushOffset == 2) = true) (hi : 1 ≤ c.illegalOperandBytes) :
    c.wf = true := by
  simp [Config.wf, hb, length_baseCyclesTaken, hi] at hk ⊢
  exact hk

/-- The values the spec takes are in R6's ranges. -/
theorem Config.wf_taken : Config.taken.wf = true := Config.wf_of_taken rfl rfl (by decide)

end Sys2Proof

namespace Sys2Proof.Machine.State

section
variable (s : State) (v : Byte)
@[simp] theorem setA_a : (s.setA v).a = v := rfl
@[simp] theorem setA_x : (s.setA v).x = s.x := rfl
@[simp] theorem setA_y : (s.setA v).y = s.y := rfl
@[simp] theorem setA_sp : (s.setA v).sp = s.sp := rfl
@[simp] theorem setA_pc : (s.setA v).pc = s.pc := rfl
@[simp] theorem setA_p : (s.setA v).p = s.p := rfl
@[simp] theorem setA_pendingNmi : (s.setA v).pendingNmi = s.pendingNmi := rfl
@[simp] theorem setA_pendingIrq : (s.setA v).pendingIrq = s.pendingIrq := rfl
@[simp] theorem setA_runState : (s.setA v).runState = s.runState := rfl
@[simp] theorem setA_mem : (s.setA v).mem = s.mem := rfl
@[simp] theorem setA_addressMap : (s.setA v).addressMap = s.addressMap := rfl
@[simp] theorem setA_cfg : (s.setA v).cfg = s.cfg := rfl
@[simp] theorem setA_elapsed : (s.setA v).elapsed = s.elapsed := rfl
@[simp] theorem setA_bus : (s.setA v).bus = s.bus := rfl
@[simp] theorem setA_portEvents : (s.setA v).portEvents = s.portEvents := rfl
end

section
variable (s : State) (v : Byte)
@[simp] theorem setX_a : (s.setX v).a = s.a := rfl
@[simp] theorem setX_x : (s.setX v).x = v := rfl
@[simp] theorem setX_y : (s.setX v).y = s.y := rfl
@[simp] theorem setX_sp : (s.setX v).sp = s.sp := rfl
@[simp] theorem setX_pc : (s.setX v).pc = s.pc := rfl
@[simp] theorem setX_p : (s.setX v).p = s.p := rfl
@[simp] theorem setX_pendingNmi : (s.setX v).pendingNmi = s.pendingNmi := rfl
@[simp] theorem setX_pendingIrq : (s.setX v).pendingIrq = s.pendingIrq := rfl
@[simp] theorem setX_runState : (s.setX v).runState = s.runState := rfl
@[simp] theorem setX_mem : (s.setX v).mem = s.mem := rfl
@[simp] theorem setX_addressMap : (s.setX v).addressMap = s.addressMap := rfl
@[simp] theorem setX_cfg : (s.setX v).cfg = s.cfg := rfl
@[simp] theorem setX_elapsed : (s.setX v).elapsed = s.elapsed := rfl
@[simp] theorem setX_bus : (s.setX v).bus = s.bus := rfl
@[simp] theorem setX_portEvents : (s.setX v).portEvents = s.portEvents := rfl
end

section
variable (s : State) (v : Byte)
@[simp] theorem setY_a : (s.setY v).a = s.a := rfl
@[simp] theorem setY_x : (s.setY v).x = s.x := rfl
@[simp] theorem setY_y : (s.setY v).y = v := rfl
@[simp] theorem setY_sp : (s.setY v).sp = s.sp := rfl
@[simp] theorem setY_pc : (s.setY v).pc = s.pc := rfl
@[simp] theorem setY_p : (s.setY v).p = s.p := rfl
@[simp] theorem setY_pendingNmi : (s.setY v).pendingNmi = s.pendingNmi := rfl
@[simp] theorem setY_pendingIrq : (s.setY v).pendingIrq = s.pendingIrq := rfl
@[simp] theorem setY_runState : (s.setY v).runState = s.runState := rfl
@[simp] theorem setY_mem : (s.setY v).mem = s.mem := rfl
@[simp] theorem setY_addressMap : (s.setY v).addressMap = s.addressMap := rfl
@[simp] theorem setY_cfg : (s.setY v).cfg = s.cfg := rfl
@[simp] theorem setY_elapsed : (s.setY v).elapsed = s.elapsed := rfl
@[simp] theorem setY_bus : (s.setY v).bus = s.bus := rfl
@[simp] theorem setY_portEvents : (s.setY v).portEvents = s.portEvents := rfl
end

section
variable (s : State) (v : Byte)
@[simp] theorem setSp_a : (s.setSp v).a = s.a := rfl
@[simp] theorem setSp_x : (s.setSp v).x = s.x := rfl
@[simp] theorem setSp_y : (s.setSp v).y = s.y := rfl
@[simp] theorem setSp_sp : (s.setSp v).sp = v := rfl
@[simp] theorem setSp_pc : (s.setSp v).pc = s.pc := rfl
@[simp] theorem setSp_p : (s.setSp v).p = s.p := rfl
@[simp] theorem setSp_pendingNmi : (s.setSp v).pendingNmi = s.pendingNmi := rfl
@[simp] theorem setSp_pendingIrq : (s.setSp v).pendingIrq = s.pendingIrq := rfl
@[simp] theorem setSp_runState : (s.setSp v).runState = s.runState := rfl
@[simp] theorem setSp_mem : (s.setSp v).mem = s.mem := rfl
@[simp] theorem setSp_addressMap : (s.setSp v).addressMap = s.addressMap := rfl
@[simp] theorem setSp_cfg : (s.setSp v).cfg = s.cfg := rfl
@[simp] theorem setSp_elapsed : (s.setSp v).elapsed = s.elapsed := rfl
@[simp] theorem setSp_bus : (s.setSp v).bus = s.bus := rfl
@[simp] theorem setSp_portEvents : (s.setSp v).portEvents = s.portEvents := rfl
end

section
variable (s : State) (v : Word)
@[simp] theorem setPc_a : (s.setPc v).a = s.a := rfl
@[simp] theorem setPc_x : (s.setPc v).x = s.x := rfl
@[simp] theorem setPc_y : (s.setPc v).y = s.y := rfl
@[simp] theorem setPc_sp : (s.setPc v).sp = s.sp := rfl
@[simp] theorem setPc_pc : (s.setPc v).pc = v := rfl
@[simp] theorem setPc_p : (s.setPc v).p = s.p := rfl
@[simp] theorem setPc_pendingNmi : (s.setPc v).pendingNmi = s.pendingNmi := rfl
@[simp] theorem setPc_pendingIrq : (s.setPc v).pendingIrq = s.pendingIrq := rfl
@[simp] theorem setPc_runState : (s.setPc v).runState = s.runState := rfl
@[simp] theorem setPc_mem : (s.setPc v).mem = s.mem := rfl
@[simp] theorem setPc_addressMap : (s.setPc v).addressMap = s.addressMap := rfl
@[simp] theorem setPc_cfg : (s.setPc v).cfg = s.cfg := rfl
@[simp] theorem setPc_elapsed : (s.setPc v).elapsed = s.elapsed := rfl
@[simp] theorem setPc_bus : (s.setPc v).bus = s.bus := rfl
@[simp] theorem setPc_portEvents : (s.setPc v).portEvents = s.portEvents := rfl
end

section
variable (s : State) (q : Status)
@[simp] theorem setP_a : (s.setP q).a = s.a := rfl
@[simp] theorem setP_x : (s.setP q).x = s.x := rfl
@[simp] theorem setP_y : (s.setP q).y = s.y := rfl
@[simp] theorem setP_sp : (s.setP q).sp = s.sp := rfl
@[simp] theorem setP_pc : (s.setP q).pc = s.pc := rfl
@[simp] theorem setP_p : (s.setP q).p = q := rfl
@[simp] theorem setP_pendingNmi : (s.setP q).pendingNmi = s.pendingNmi := rfl
@[simp] theorem setP_pendingIrq : (s.setP q).pendingIrq = s.pendingIrq := rfl
@[simp] theorem setP_runState : (s.setP q).runState = s.runState := rfl
@[simp] theorem setP_mem : (s.setP q).mem = s.mem := rfl
@[simp] theorem setP_addressMap : (s.setP q).addressMap = s.addressMap := rfl
@[simp] theorem setP_cfg : (s.setP q).cfg = s.cfg := rfl
@[simp] theorem setP_elapsed : (s.setP q).elapsed = s.elapsed := rfl
@[simp] theorem setP_bus : (s.setP q).bus = s.bus := rfl
@[simp] theorem setP_portEvents : (s.setP q).portEvents = s.portEvents := rfl
end

section
variable (s : State) (v : Byte)
@[simp] theorem setZN_a : (s.setZN v).a = s.a := rfl
@[simp] theorem setZN_x : (s.setZN v).x = s.x := rfl
@[simp] theorem setZN_y : (s.setZN v).y = s.y := rfl
@[simp] theorem setZN_sp : (s.setZN v).sp = s.sp := rfl
@[simp] theorem setZN_pc : (s.setZN v).pc = s.pc := rfl
@[simp] theorem setZN_p : (s.setZN v).p = s.p.setZN v := rfl
@[simp] theorem setZN_pendingNmi : (s.setZN v).pendingNmi = s.pendingNmi := rfl
@[simp] theorem setZN_pendingIrq : (s.setZN v).pendingIrq = s.pendingIrq := rfl
@[simp] theorem setZN_runState : (s.setZN v).runState = s.runState := rfl
@[simp] theorem setZN_mem : (s.setZN v).mem = s.mem := rfl
@[simp] theorem setZN_addressMap : (s.setZN v).addressMap = s.addressMap := rfl
@[simp] theorem setZN_cfg : (s.setZN v).cfg = s.cfg := rfl
@[simp] theorem setZN_elapsed : (s.setZN v).elapsed = s.elapsed := rfl
@[simp] theorem setZN_bus : (s.setZN v).bus = s.bus := rfl
@[simp] theorem setZN_portEvents : (s.setZN v).portEvents = s.portEvents := rfl
end

section
variable (s : State) (n : Nat)
@[simp] theorem addCycles_a : (s.addCycles n).a = s.a := rfl
@[simp] theorem addCycles_x : (s.addCycles n).x = s.x := rfl
@[simp] theorem addCycles_y : (s.addCycles n).y = s.y := rfl
@[simp] theorem addCycles_sp : (s.addCycles n).sp = s.sp := rfl
@[simp] theorem addCycles_pc : (s.addCycles n).pc = s.pc := rfl
@[simp] theorem addCycles_p : (s.addCycles n).p = s.p := rfl
@[simp] theorem addCycles_pendingNmi : (s.addCycles n).pendingNmi = s.pendingNmi := rfl
@[simp] theorem addCycles_pendingIrq : (s.addCycles n).pendingIrq = s.pendingIrq := rfl
@[simp] theorem addCycles_runState : (s.addCycles n).runState = s.runState := rfl
@[simp] theorem addCycles_mem : (s.addCycles n).mem = s.mem := rfl
@[simp] theorem addCycles_addressMap : (s.addCycles n).addressMap = s.addressMap := rfl
@[simp] theorem addCycles_cfg : (s.addCycles n).cfg = s.cfg := rfl
@[simp] theorem addCycles_elapsed : (s.addCycles n).elapsed = s.elapsed + n := rfl
@[simp] theorem addCycles_bus : (s.addCycles n).bus = s.bus := rfl
@[simp] theorem addCycles_portEvents : (s.addCycles n).portEvents = s.portEvents := rfl
end

section
variable (s : State) (e : BusEvent)
@[simp] theorem logEvent_a : (s.logEvent e).a = s.a := rfl
@[simp] theorem logEvent_x : (s.logEvent e).x = s.x := rfl
@[simp] theorem logEvent_y : (s.logEvent e).y = s.y := rfl
@[simp] theorem logEvent_sp : (s.logEvent e).sp = s.sp := rfl
@[simp] theorem logEvent_pc : (s.logEvent e).pc = s.pc := rfl
@[simp] theorem logEvent_p : (s.logEvent e).p = s.p := rfl
@[simp] theorem logEvent_pendingNmi : (s.logEvent e).pendingNmi = s.pendingNmi := rfl
@[simp] theorem logEvent_pendingIrq : (s.logEvent e).pendingIrq = s.pendingIrq := rfl
@[simp] theorem logEvent_runState : (s.logEvent e).runState = s.runState := rfl
@[simp] theorem logEvent_mem : (s.logEvent e).mem = s.mem := rfl
@[simp] theorem logEvent_addressMap : (s.logEvent e).addressMap = s.addressMap := rfl
@[simp] theorem logEvent_cfg : (s.logEvent e).cfg = s.cfg := rfl
@[simp] theorem logEvent_elapsed : (s.logEvent e).elapsed = s.elapsed := rfl
@[simp] theorem logEvent_bus : (s.logEvent e).bus = s.bus ++ [e] := rfl
@[simp] theorem logEvent_portEvents : (s.logEvent e).portEvents = s.portEvents + 1 := rfl
end

section
variable (s : State)
@[simp] theorem clearOutputs_a : (clearOutputs s).a = s.a := rfl
@[simp] theorem clearOutputs_x : (clearOutputs s).x = s.x := rfl
@[simp] theorem clearOutputs_y : (clearOutputs s).y = s.y := rfl
@[simp] theorem clearOutputs_sp : (clearOutputs s).sp = s.sp := rfl
@[simp] theorem clearOutputs_pc : (clearOutputs s).pc = s.pc := rfl
@[simp] theorem clearOutputs_p : (clearOutputs s).p = s.p := rfl
@[simp] theorem clearOutputs_pendingNmi : (clearOutputs s).pendingNmi = s.pendingNmi := rfl
@[simp] theorem clearOutputs_pendingIrq : (clearOutputs s).pendingIrq = s.pendingIrq := rfl
@[simp] theorem clearOutputs_runState : (clearOutputs s).runState = s.runState := rfl
@[simp] theorem clearOutputs_mem : (clearOutputs s).mem = s.mem := rfl
@[simp] theorem clearOutputs_addressMap : (clearOutputs s).addressMap = s.addressMap := rfl
@[simp] theorem clearOutputs_cfg : (clearOutputs s).cfg = s.cfg := rfl
@[simp] theorem clearOutputs_elapsed : (clearOutputs s).elapsed = 0 := rfl
@[simp] theorem clearOutputs_bus : (clearOutputs s).bus = [] := rfl
@[simp] theorem clearOutputs_portEvents : (clearOutputs s).portEvents = s.portEvents := rfl
end

section
variable (s : State) (k : InterruptKind)
@[simp] theorem clearLatch_a : (clearLatch k s).a = s.a := by cases k <;> rfl
@[simp] theorem clearLatch_x : (clearLatch k s).x = s.x := by cases k <;> rfl
@[simp] theorem clearLatch_y : (clearLatch k s).y = s.y := by cases k <;> rfl
@[simp] theorem clearLatch_sp : (clearLatch k s).sp = s.sp := by cases k <;> rfl
@[simp] theorem clearLatch_pc : (clearLatch k s).pc = s.pc := by cases k <;> rfl
@[simp] theorem clearLatch_p : (clearLatch k s).p = s.p := by cases k <;> rfl
@[simp] theorem clearLatch_runState : (clearLatch k s).runState = s.runState := by cases k <;> rfl
@[simp] theorem clearLatch_mem : (clearLatch k s).mem = s.mem := by cases k <;> rfl
@[simp] theorem clearLatch_addressMap : (clearLatch k s).addressMap = s.addressMap := by cases k <;> rfl
@[simp] theorem clearLatch_cfg : (clearLatch k s).cfg = s.cfg := by cases k <;> rfl
@[simp] theorem clearLatch_elapsed : (clearLatch k s).elapsed = s.elapsed := by cases k <;> rfl
@[simp] theorem clearLatch_bus : (clearLatch k s).bus = s.bus := by cases k <;> rfl
@[simp] theorem clearLatch_portEvents : (clearLatch k s).portEvents = s.portEvents := by cases k <;> rfl
end

end Sys2Proof.Machine.State
end

