-- ==== Sys2Proof/Laws/Ops.lean ====
section
/-! SUPPORT. What each shared operation on the bus, the stack and the status does: one group of lemmas for each, which
callers cite instead of unfolding it. -/

namespace Sys2Proof.Machine

/-! ### Reading one byte -/

section
variable (s : State) (addr : Word)
@[simp] theorem byteAt_setA (v : Byte) : (s.setA v).byteAt addr = s.byteAt addr := rfl
@[simp] theorem byteAt_setX (v : Byte) : (s.setX v).byteAt addr = s.byteAt addr := rfl
@[simp] theorem byteAt_setY (v : Byte) : (s.setY v).byteAt addr = s.byteAt addr := rfl
@[simp] theorem byteAt_setSp (v : Byte) : (s.setSp v).byteAt addr = s.byteAt addr := rfl
@[simp] theorem byteAt_setPc (v : Word) : (s.setPc v).byteAt addr = s.byteAt addr := rfl
@[simp] theorem byteAt_setP (q : Status) : (s.setP q).byteAt addr = s.byteAt addr := rfl
@[simp] theorem byteAt_setZN (v : Byte) : (s.setZN v).byteAt addr = s.byteAt addr := rfl
@[simp] theorem byteAt_addCycles (n : Nat) : (s.addCycles n).byteAt addr = s.byteAt addr := rfl
@[simp] theorem byteAt_logEvent (e : BusEvent) : (s.logEvent e).byteAt addr = s.byteAt addr := rfl
@[simp] theorem byteAt_clearOutputs : (clearOutputs s).byteAt addr = s.byteAt addr := rfl
@[simp] theorem isPlain_setA (v : Byte) : (s.setA v).isPlain addr = s.isPlain addr := rfl
@[simp] theorem isPlain_setX (v : Byte) : (s.setX v).isPlain addr = s.isPlain addr := rfl
@[simp] theorem isPlain_setY (v : Byte) : (s.setY v).isPlain addr = s.isPlain addr := rfl
@[simp] theorem isPlain_setSp (v : Byte) : (s.setSp v).isPlain addr = s.isPlain addr := rfl
@[simp] theorem isPlain_setPc (v : Word) : (s.setPc v).isPlain addr = s.isPlain addr := rfl
@[simp] theorem isPlain_setP (q : Status) : (s.setP q).isPlain addr = s.isPlain addr := rfl
@[simp] theorem isPlain_setZN (v : Byte) : (s.setZN v).isPlain addr = s.isPlain addr := rfl
@[simp] theorem isPlain_addCycles (n : Nat) : (s.addCycles n).isPlain addr = s.isPlain addr := rfl
@[simp] theorem isPlain_logEvent (e : BusEvent) : (s.logEvent e).isPlain addr = s.isPlain addr := rfl
@[simp] theorem isPlain_clearOutputs : (clearOutputs s).isPlain addr = s.isPlain addr := rfl
@[simp] theorem answerAt_setA (v : Byte) (n : Nat) : (s.setA v).answerAt n addr = s.answerAt n addr := rfl
@[simp] theorem answerAt_setX (v : Byte) (n : Nat) : (s.setX v).answerAt n addr = s.answerAt n addr := rfl
@[simp] theorem answerAt_setY (v : Byte) (n : Nat) : (s.setY v).answerAt n addr = s.answerAt n addr := rfl
@[simp] theorem answerAt_setSp (v : Byte) (n : Nat) : (s.setSp v).answerAt n addr = s.answerAt n addr := rfl
@[simp] theorem answerAt_setPc (v : Word) (n : Nat) : (s.setPc v).answerAt n addr = s.answerAt n addr := rfl
@[simp] theorem answerAt_setP (q : Status) (n : Nat) : (s.setP q).answerAt n addr = s.answerAt n addr := rfl
@[simp] theorem answerAt_setZN (v : Byte) (n : Nat) : (s.setZN v).answerAt n addr = s.answerAt n addr := rfl
@[simp] theorem answerAt_addCycles (m : Nat) (n : Nat) : (s.addCycles m).answerAt n addr = s.answerAt n addr := rfl
@[simp] theorem answerAt_logEvent (e : BusEvent) (n : Nat) : (s.logEvent e).answerAt n addr = s.answerAt n addr := rfl
@[simp] theorem answerAt_clearOutputs (n : Nat) : (clearOutputs s).answerAt n addr = s.answerAt n addr := rfl
@[simp] theorem memAfterWrite_setA (w : Byte) (v : Byte) : (s.setA w).memAfterWrite addr v = s.memAfterWrite addr v := rfl
@[simp] theorem memAfterWrite_setX (w : Byte) (v : Byte) : (s.setX w).memAfterWrite addr v = s.memAfterWrite addr v := rfl
@[simp] theorem memAfterWrite_setY (w : Byte) (v : Byte) : (s.setY w).memAfterWrite addr v = s.memAfterWrite addr v := rfl
@[simp] theorem memAfterWrite_setSp (w : Byte) (v : Byte) : (s.setSp w).memAfterWrite addr v = s.memAfterWrite addr v := rfl
@[simp] theorem memAfterWrite_setPc (w : Word) (v : Byte) : (s.setPc w).memAfterWrite addr v = s.memAfterWrite addr v := rfl
@[simp] theorem memAfterWrite_setP (q : Status) (v : Byte) : (s.setP q).memAfterWrite addr v = s.memAfterWrite addr v := rfl
@[simp] theorem memAfterWrite_setZN (w : Byte) (v : Byte) : (s.setZN w).memAfterWrite addr v = s.memAfterWrite addr v := rfl
@[simp] theorem memAfterWrite_addCycles (n : Nat) (v : Byte) : (s.addCycles n).memAfterWrite addr v = s.memAfterWrite addr v := rfl
@[simp] theorem memAfterWrite_logEvent (e : BusEvent) (v : Byte) : (s.logEvent e).memAfterWrite addr v = s.memAfterWrite addr v := rfl
@[simp] theorem memAfterWrite_clearOutputs (v : Byte) : (clearOutputs s).memAfterWrite addr v = s.memAfterWrite addr v := rfl

/-- Plain memory answers with the byte it holds, whenever it is asked (R61). -/
theorem answerAt_of_plain {s : State} {addr : Word} (h : s.isPlain addr = true) (n : Nat) :
    s.answerAt n addr = s.byteAt addr := by
  simp [State.answerAt, h]

/-- What any other address answers is free (R52). -/
theorem answerAt_of_not_plain {s : State} {addr : Word} (h : s.isPlain addr = false) (n : Nat) :
    s.answerAt n addr = Config.busAnswer n addr := by
  simp [State.answerAt, h]

/-- A read gives the answer of the bus and logs itself; nothing else changes. -/
@[simp] theorem read8_eq :
    read8 addr s = (s.answerAt s.portEvents addr, s.logEvent (.read addr (s.answerAt s.portEvents addr))) := rfl

/-- A 16-bit read is two byte reads, low first. -/
@[simp] theorem read16At_eq (hiAddr : Word) :
    read16At addr hiAddr s =
      (join (s.answerAt (s.portEvents + 1) hiAddr) (s.answerAt s.portEvents addr),
        (s.logEvent (.read addr (s.answerAt s.portEvents addr))).logEvent
          (.read hiAddr (s.answerAt (s.portEvents + 1) hiAddr))) := rfl

@[simp] theorem read16_eq :
    read16 addr s =
      (join (s.answerAt (s.portEvents + 1) (addr + 1)) (s.answerAt s.portEvents addr),
        (s.logEvent (.read addr (s.answerAt s.portEvents addr))).logEvent
          (.read (addr + 1) (s.answerAt (s.portEvents + 1) (addr + 1)))) := rfl
end

/-! ### Writing one byte -/

section
variable (addr : Word) (v : Byte) (s : State)
@[simp] theorem write8_a : (write8 addr v s).a = s.a := rfl
@[simp] theorem write8_x : (write8 addr v s).x = s.x := rfl
@[simp] theorem write8_y : (write8 addr v s).y = s.y := rfl
@[simp] theorem write8_sp : (write8 addr v s).sp = s.sp := rfl
@[simp] theorem write8_pc : (write8 addr v s).pc = s.pc := rfl
@[simp] theorem write8_p : (write8 addr v s).p = s.p := rfl
@[simp] theorem write8_pendingNmi : (write8 addr v s).pendingNmi = s.pendingNmi := rfl
@[simp] theorem write8_pendingIrq : (write8 addr v s).pendingIrq = s.pendingIrq := rfl
@[simp] theorem write8_runState : (write8 addr v s).runState = s.runState := rfl
@[simp] theorem write8_mem : (write8 addr v s).mem = s.memAfterWrite addr v := rfl
@[simp] theorem write8_addressMap : (write8 addr v s).addressMap = s.addressMap := rfl
@[simp] theorem write8_cfg : (write8 addr v s).cfg = s.cfg := rfl
@[simp] theorem write8_elapsed : (write8 addr v s).elapsed = s.elapsed := rfl
@[simp] theorem write8_bus : (write8 addr v s).bus = s.bus ++ [.write addr v] := rfl
@[simp] theorem write8_portEvents : (write8 addr v s).portEvents = s.portEvents + 1 := rfl
@[simp] theorem write8_isPlain (b : Word) : (write8 addr v s).isPlain b = s.isPlain b := rfl
end

/-- A write keeps the canonical form of memory. -/
theorem memAfterWrite_wf {s : State} (h : s.mem.wf = true) (addr : Word) (v : Byte) :
    (s.memAfterWrite addr v).wf = true := by
  unfold State.memAfterWrite
  split
  · exact Memory.wf_write h addr v
  · exact h

/-- After a write, its own byte of plain memory is the value written and every other byte is as before. -/
theorem read_memAfterWrite {s : State} (h : s.mem.wf = true) (addr : Word) (v : Byte) (b : Word) :
    (s.memAfterWrite addr v).read b.toNat = if b = addr ∧ s.isPlain addr = true then v else s.byteAt b := by
  unfold State.memAfterWrite
  by_cases hp : s.isPlain addr = true
  · by_cases e : b = addr
    · subst e
      simp [hp, Memory.read_write_same h]
    · simp only [hp, e, false_and, if_true, if_false]
      exact Memory.read_write_other _ _ _ _ (fun hn => e (BitVec.eq_of_toNat_eq hn))
  · simp [hp, State.byteAt]

theorem byteAt_write8 {s : State} (h : s.mem.wf = true) (addr : Word) (v : Byte) (b : Word) :
    (write8 addr v s).byteAt b = if b = addr ∧ s.isPlain addr = true then v else s.byteAt b :=
  read_memAfterWrite h addr v b

/-- After a write, a read of its own address answers the value written where the bus is plain memory (R61), and every
other answer is as it would have been. -/
theorem answerAt_write8 {s : State} (h : s.mem.wf = true) (addr : Word) (v : Byte) (n : Nat) (b : Word) :
    (write8 addr v s).answerAt n b = if b = addr ∧ s.isPlain addr = true then v else s.answerAt n b := by
  simp only [State.answerAt, write8_isPlain, byteAt_write8 h]
  by_cases e : b = addr
  · subst e
    cases s.isPlain b <;> simp
  · simp [e]

theorem write8_wf {s : State} (h : s.mem.wf = true) (addr : Word) (v : Byte) : (write8 addr v s).mem.wf = true :=
  memAfterWrite_wf h addr v

/-! ### The stack -/

theorem stackAddr_toNat (sp : Byte) : (stackAddr sp).toNat = 256 + sp.toNat := by
  simp [stackAddr, join_toNat]

/-- Different SP values denote different bytes. -/
@[simp] theorem stackAddr_inj (sp sp' : Byte) : stackAddr sp = stackAddr sp' ↔ sp = sp' := by
  simp [stackAddr, join_inj]

/-- The stack page holds no vector. -/
theorem stackAddr_ne_of_le {w : Word} (h : 512 ≤ w.toNat) (sp : Byte) : w ≠ stackAddr sp := by
  intro e
  have h1 := congrArg BitVec.toNat e
  have h2 := sp.isLt
  rw [stackAddr_toNat] at h1
  omega

/-- A pull reads where the push before it wrote, in both stack orders. -/
@[simp] theorem pullAddr_pushed (c : Config) (sp : Byte) : pullAddr c (sp - 1#8) = pushAddr c sp := by
  simp [pullAddr, pushAddr]

section
variable (v : Byte) (s : State)
@[simp] theorem push8_a : (push8 v s).a = s.a := rfl
@[simp] theorem push8_x : (push8 v s).x = s.x := rfl
@[simp] theorem push8_y : (push8 v s).y = s.y := rfl
@[simp] theorem push8_sp : (push8 v s).sp = s.sp - 1 := rfl
@[simp] theorem push8_pc : (push8 v s).pc = s.pc := rfl
@[simp] theorem push8_p : (push8 v s).p = s.p := rfl
@[simp] theorem push8_pendingNmi : (push8 v s).pendingNmi = s.pendingNmi := rfl
@[simp] theorem push8_pendingIrq : (push8 v s).pendingIrq = s.pendingIrq := rfl
@[simp] theorem push8_runState : (push8 v s).runState = s.runState := rfl
@[simp] theorem push8_mem : (push8 v s).mem = s.memAfterWrite (pushAddr s.cfg s.sp) v := rfl
@[simp] theorem push8_addressMap : (push8 v s).addressMap = s.addressMap := rfl
@[simp] theorem push8_cfg : (push8 v s).cfg = s.cfg := rfl
@[simp] theorem push8_elapsed : (push8 v s).elapsed = s.elapsed := rfl
@[simp] theorem push8_bus : (push8 v s).bus = s.bus ++ [.write (pushAddr s.cfg s.sp) v] := rfl
@[simp] theorem push8_portEvents : (push8 v s).portEvents = s.portEvents + 1 := rfl
@[simp] theorem push8_isPlain (b : Word) : (push8 v s).isPlain b = s.isPlain b := rfl
end

/-- A pull gives the answer at the top of the stack, logs its read and raises SP by one. -/
@[simp] theorem pull8_eq (s : State) :
    pull8 s =
      (s.answerAt s.portEvents (pullAddr s.cfg s.sp),
        (s.logEvent (.read (pullAddr s.cfg s.sp) (s.answerAt s.portEvents (pullAddr s.cfg s.sp)))).setSp (s.sp + 1)) := rfl

theorem byteAt_push8 {s : State} (h : s.mem.wf = true) (v : Byte) (b : Word) :
    (push8 v s).byteAt b = if b = pushAddr s.cfg s.sp ∧ s.isPlain (pushAddr s.cfg s.sp) = true then v else s.byteAt b :=
  byteAt_write8 h _ _ _

theorem answerAt_push8 {s : State} (h : s.mem.wf = true) (v : Byte) (n : Nat) (b : Word) :
    (push8 v s).answerAt n b =
      if b = pushAddr s.cfg s.sp ∧ s.isPlain (pushAddr s.cfg s.sp) = true then v else s.answerAt n b :=
  answerAt_write8 h _ _ _ _

theorem push8_wf {s : State} (h : s.mem.wf = true) (v : Byte) : (push8 v s).mem.wf = true := write8_wf h _ _

/-- A 16-bit push is two byte pushes, high first. -/
theorem push16_eq (v : Word) (s : State) : push16 v s = push8 (lo8 v) (push8 (hi8 v) s) := rfl

section
variable (v : Word) (s : State)
@[simp] theorem push16_a : (push16 v s).a = s.a := rfl
@[simp] theorem push16_x : (push16 v s).x = s.x := rfl
@[simp] theorem push16_y : (push16 v s).y = s.y := rfl
@[simp] theorem push16_pc : (push16 v s).pc = s.pc := rfl
@[simp] theorem push16_p : (push16 v s).p = s.p := rfl
@[simp] theorem push16_pendingNmi : (push16 v s).pendingNmi = s.pendingNmi := rfl
@[simp] theorem push16_pendingIrq : (push16 v s).pendingIrq = s.pendingIrq := rfl
@[simp] theorem push16_runState : (push16 v s).runState = s.runState := rfl
@[simp] theorem push16_cfg : (push16 v s).cfg = s.cfg := rfl
@[simp] theorem push16_elapsed : (push16 v s).elapsed = s.elapsed := rfl
@[simp] theorem push16_addressMap : (push16 v s).addressMap = s.addressMap := rfl
@[simp] theorem push16_portEvents : (push16 v s).portEvents = s.portEvents + 2 := rfl
@[simp] theorem push16_isPlain (b : Word) : (push16 v s).isPlain b = s.isPlain b := rfl
end

theorem push16_wf {s : State} (h : s.mem.wf = true) (v : Word) : (push16 v s).mem.wf = true := push8_wf (push8_wf h _) _

/-! ### The end of an instruction, entry and return -/

/-- A legal instruction ends in a next state that differs from the handler's by its cycles. -/
@[simp] theorem retire_eq (op : Byte) (crossed : Bool) (extra : Nat) (s : State) :
    retire op crossed extra s = .next (s.addCycles (instrCycles s.cfg op crossed extra)) := rfl

section
variable (vector : Word) (b : Bool) (s : State)
@[simp] theorem interruptEntry_a : (interruptEntry vector b s).a = s.a := by simp [interruptEntry, push16_eq]
@[simp] theorem interruptEntry_x : (interruptEntry vector b s).x = s.x := by simp [interruptEntry, push16_eq]
@[simp] theorem interruptEntry_y : (interruptEntry vector b s).y = s.y := by simp [interruptEntry, push16_eq]
@[simp] theorem interruptEntry_p : (interruptEntry vector b s).p = { s.p with b := false, i := true } := by simp [interruptEntry, push16_eq]
@[simp] theorem interruptEntry_pendingNmi : (interruptEntry vector b s).pendingNmi = s.pendingNmi := by simp [interruptEntry, push16_eq]
@[simp] theorem interruptEntry_pendingIrq : (interruptEntry vector b s).pendingIrq = s.pendingIrq := by simp [interruptEntry, push16_eq]
@[simp] theorem interruptEntry_runState : (interruptEntry vector b s).runState = s.runState := by simp [interruptEntry, push16_eq]
@[simp] theorem interruptEntry_cfg : (interruptEntry vector b s).cfg = s.cfg := by simp [interruptEntry, push16_eq]
@[simp] theorem interruptEntry_elapsed : (interruptEntry vector b s).elapsed = s.elapsed := by simp [interruptEntry, push16_eq]
@[simp] theorem interruptEntry_addressMap : (interruptEntry vector b s).addressMap = s.addressMap := by
  simp [interruptEntry, push16_eq]
@[simp] theorem interruptEntry_portEvents : (interruptEntry vector b s).portEvents = s.portEvents + 5 := by
  simp [interruptEntry, push16_eq]
@[simp] theorem interruptEntry_mem :
    (interruptEntry vector b s).mem = (push8 (s.p.pushed b) (push16 s.pc s)).mem := by simp [interruptEntry, push16_eq]
end

theorem interruptEntry_wf {s : State} (h : s.mem.wf = true) (vector : Word) (b : Bool) :
    (interruptEntry vector b s).mem.wf = true := by
  rw [interruptEntry_mem]
  exact push8_wf (push16_wf h _) _

end Sys2Proof.Machine
end

