-- ==== Sys2Proof/Laws/Operands.lean ====
section
/-! SUPPORT. What resolving an operand does to the state: it adds its reads to the bus events, and nothing else. -/

namespace Sys2Proof.Machine

/-- Reading two bytes adds their events and changes nothing else. -/
theorem read16At_snd (addr hiAddr : Word) (s : State) :
    ∃ es, (read16At addr hiAddr s).2 = { s with bus := s.bus ++ es, portEvents := s.portEvents + es.length } :=
  ⟨[.read addr (s.answerAt s.portEvents addr), .read hiAddr (s.answerAt (s.portEvents + 1) hiAddr)], by
    simp [State.logEvent]⟩

/-- Resolving a memory operand adds events and changes nothing else (R100). -/
theorem resolve_after_eq (o : MemOperand) (s : State) :
    ∃ es, (resolve o s).after = { s with bus := s.bus ++ es, portEvents := s.portEvents + es.length } := by
  cases o with
  | zeroPage | zeroPageX | zeroPageY | absolute | absoluteX | absoluteY =>
    refine ⟨[], ?_⟩
    simp [resolve, indexed]
  | indirect ptr => exact read16At_snd _ _ _
  | indirectX zp => exact read16At_snd _ _ _
  | indirectY zp => exact read16At_snd _ _ _

section
variable (o : MemOperand) (s : State)
@[simp] theorem resolve_after_a : (resolve o s).after.a = s.a := by
  obtain ⟨es, h⟩ := resolve_after_eq o s; rw [h]
@[simp] theorem resolve_after_x : (resolve o s).after.x = s.x := by
  obtain ⟨es, h⟩ := resolve_after_eq o s; rw [h]
@[simp] theorem resolve_after_y : (resolve o s).after.y = s.y := by
  obtain ⟨es, h⟩ := resolve_after_eq o s; rw [h]
@[simp] theorem resolve_after_sp : (resolve o s).after.sp = s.sp := by
  obtain ⟨es, h⟩ := resolve_after_eq o s; rw [h]
@[simp] theorem resolve_after_pc : (resolve o s).after.pc = s.pc := by
  obtain ⟨es, h⟩ := resolve_after_eq o s; rw [h]
@[simp] theorem resolve_after_p : (resolve o s).after.p = s.p := by
  obtain ⟨es, h⟩ := resolve_after_eq o s; rw [h]
@[simp] theorem resolve_after_pendingNmi : (resolve o s).after.pendingNmi = s.pendingNmi := by
  obtain ⟨es, h⟩ := resolve_after_eq o s; rw [h]
@[simp] theorem resolve_after_pendingIrq : (resolve o s).after.pendingIrq = s.pendingIrq := by
  obtain ⟨es, h⟩ := resolve_after_eq o s; rw [h]
@[simp] theorem resolve_after_runState : (resolve o s).after.runState = s.runState := by
  obtain ⟨es, h⟩ := resolve_after_eq o s; rw [h]
@[simp] theorem resolve_after_mem : (resolve o s).after.mem = s.mem := by
  obtain ⟨es, h⟩ := resolve_after_eq o s; rw [h]
@[simp] theorem resolve_after_addressMap : (resolve o s).after.addressMap = s.addressMap := by
  obtain ⟨es, h⟩ := resolve_after_eq o s; rw [h]
@[simp] theorem resolve_after_cfg : (resolve o s).after.cfg = s.cfg := by
  obtain ⟨es, h⟩ := resolve_after_eq o s; rw [h]
@[simp] theorem resolve_after_elapsed : (resolve o s).after.elapsed = s.elapsed := by
  obtain ⟨es, h⟩ := resolve_after_eq o s; rw [h]
@[simp] theorem resolve_after_byteAt (addr : Word) : (resolve o s).after.byteAt addr = s.byteAt addr := by
  simp [State.byteAt]
@[simp] theorem resolve_after_isPlain (addr : Word) : (resolve o s).after.isPlain addr = s.isPlain addr := by
  simp [State.isPlain]
@[simp] theorem resolve_after_answerAt (n : Nat) (addr : Word) :
    (resolve o s).after.answerAt n addr = s.answerAt n addr := by
  simp [State.answerAt]
@[simp] theorem resolve_after_memAfterWrite (addr : Word) (v : Byte) :
    (resolve o s).after.memAfterWrite addr v = s.memAfterWrite addr v := by
  simp [State.memAfterWrite]
end

/-- Reading an operand adds events and changes nothing else. -/
theorem readOperand_after_eq (o : ReadOperand) (s : State) :
    ∃ es, (readOperand o s).after = { s with bus := s.bus ++ es, portEvents := s.portEvents + es.length } := by
  cases o with
  | immediate v => exact ⟨[], by simp [readOperand]⟩
  | memory m =>
    obtain ⟨es, h⟩ := resolve_after_eq m s
    refine ⟨es ++ [.read (resolve m s).addr ((resolve m s).after.answerAt (resolve m s).after.portEvents (resolve m s).addr)],
      ?_⟩
    simp only [readOperand, read8_eq, State.logEvent]
    rw [h]
    simp [Nat.add_assoc]

section
variable (o : ReadOperand) (s : State)
@[simp] theorem readOperand_after_a : (readOperand o s).after.a = s.a := by
  obtain ⟨es, h⟩ := readOperand_after_eq o s; rw [h]
@[simp] theorem readOperand_after_x : (readOperand o s).after.x = s.x := by
  obtain ⟨es, h⟩ := readOperand_after_eq o s; rw [h]
@[simp] theorem readOperand_after_y : (readOperand o s).after.y = s.y := by
  obtain ⟨es, h⟩ := readOperand_after_eq o s; rw [h]
@[simp] theorem readOperand_after_sp : (readOperand o s).after.sp = s.sp := by
  obtain ⟨es, h⟩ := readOperand_after_eq o s; rw [h]
@[simp] theorem readOperand_after_pc : (readOperand o s).after.pc = s.pc := by
  obtain ⟨es, h⟩ := readOperand_after_eq o s; rw [h]
@[simp] theorem readOperand_after_p : (readOperand o s).after.p = s.p := by
  obtain ⟨es, h⟩ := readOperand_after_eq o s; rw [h]
@[simp] theorem readOperand_after_pendingNmi : (readOperand o s).after.pendingNmi = s.pendingNmi := by
  obtain ⟨es, h⟩ := readOperand_after_eq o s; rw [h]
@[simp] theorem readOperand_after_pendingIrq : (readOperand o s).after.pendingIrq = s.pendingIrq := by
  obtain ⟨es, h⟩ := readOperand_after_eq o s; rw [h]
@[simp] theorem readOperand_after_runState : (readOperand o s).after.runState = s.runState := by
  obtain ⟨es, h⟩ := readOperand_after_eq o s; rw [h]
@[simp] theorem readOperand_after_mem : (readOperand o s).after.mem = s.mem := by
  obtain ⟨es, h⟩ := readOperand_after_eq o s; rw [h]
@[simp] theorem readOperand_after_addressMap : (readOperand o s).after.addressMap = s.addressMap := by
  obtain ⟨es, h⟩ := readOperand_after_eq o s; rw [h]
@[simp] theorem readOperand_after_cfg : (readOperand o s).after.cfg = s.cfg := by
  obtain ⟨es, h⟩ := readOperand_after_eq o s; rw [h]
@[simp] theorem readOperand_after_elapsed : (readOperand o s).after.elapsed = s.elapsed := by
  obtain ⟨es, h⟩ := readOperand_after_eq o s; rw [h]
end

end Sys2Proof.Machine
end

