-- ==== Sys2Proof/Laws/Families.lean ====
section
/-! SUPPORT. What the shared operation of each family answers: one equation for each, which says everything it can do, and
that it keeps the canonical form of memory. -/

namespace Sys2Proof.Machine

/-! ### Operations that read an operand -/

section
variable (op : Byte) (o : ReadOperand) (s : State)

/-- A load changes its register, Z and N (R121 to R123). -/
theorem loadA_eq :
    loadA op o s =
      .next { (readOperand o s).after with
        a := (readOperand o s).value
        p := s.p.setZN (readOperand o s).value
        elapsed := s.elapsed + instrCycles s.cfg op (readOperand o s).crossed 0 } := by
  simp [loadA, State.setZN, State.ext_iff]

/-- A load changes its register, Z and N (R121 to R123). -/
theorem loadX_eq :
    loadX op o s =
      .next { (readOperand o s).after with
        x := (readOperand o s).value
        p := s.p.setZN (readOperand o s).value
        elapsed := s.elapsed + instrCycles s.cfg op (readOperand o s).crossed 0 } := by
  simp [loadX, State.setZN, State.ext_iff]

/-- A load changes its register, Z and N (R121 to R123). -/
theorem loadY_eq :
    loadY op o s =
      .next { (readOperand o s).after with
        y := (readOperand o s).value
        p := s.p.setZN (readOperand o s).value
        elapsed := s.elapsed + instrCycles s.cfg op (readOperand o s).crossed 0 } := by
  simp [loadY, State.setZN, State.ext_iff]

/-- ADC changes A, C, V, Z and N (R141). -/
theorem adc_eq :
    adc op o s =
      .next { (readOperand o s).after with
        a := (aluAdd s.a (readOperand o s).value s.p.c).value
        p := Status.setZN (aluAdd s.a (readOperand o s).value s.p.c).value
          { s.p with
            c := (aluAdd s.a (readOperand o s).value s.p.c).carry
            v := (aluAdd s.a (readOperand o s).value s.p.c).overflow }
        elapsed := s.elapsed + instrCycles s.cfg op (readOperand o s).crossed 0 } := by
  simp [adc, finishAdd, State.ext_iff]

/-- SBC changes A, C, V, Z and N (R142). -/
theorem sbc_eq :
    sbc op o s =
      .next { (readOperand o s).after with
        a := (aluSub s.a (readOperand o s).value s.p.c).value
        p := Status.setZN (aluSub s.a (readOperand o s).value s.p.c).value
          { s.p with
            c := (aluSub s.a (readOperand o s).value s.p.c).carry
            v := (aluSub s.a (readOperand o s).value s.p.c).overflow }
        elapsed := s.elapsed + instrCycles s.cfg op (readOperand o s).crossed 0 } := by
  simp [sbc, finishAdd, State.ext_iff]

/-- A compare changes C, Z and N (R143). -/
theorem compareWith_eq (reg : Byte) :
    compareWith op reg o s =
      .next { (readOperand o s).after with
        p := Status.compare reg (readOperand o s).value s.p
        elapsed := s.elapsed + instrCycles s.cfg op (readOperand o s).crossed 0 } := by
  simp [compareWith, State.ext_iff]

/-- The operation changes A, Z and N (R161 to R163). -/
theorem andA_eq :
    andA op o s =
      .next { (readOperand o s).after with
        a := s.a &&& (readOperand o s).value
        p := s.p.setZN (s.a &&& (readOperand o s).value)
        elapsed := s.elapsed + instrCycles s.cfg op (readOperand o s).crossed 0 } := by
  simp [andA, State.setZN, State.ext_iff]

/-- The operation changes A, Z and N (R161 to R163). -/
theorem oraA_eq :
    oraA op o s =
      .next { (readOperand o s).after with
        a := s.a ||| (readOperand o s).value
        p := s.p.setZN (s.a ||| (readOperand o s).value)
        elapsed := s.elapsed + instrCycles s.cfg op (readOperand o s).crossed 0 } := by
  simp [oraA, State.setZN, State.ext_iff]

/-- The operation changes A, Z and N (R161 to R163). -/
theorem eorA_eq :
    eorA op o s =
      .next { (readOperand o s).after with
        a := s.a ^^^ (readOperand o s).value
        p := s.p.setZN (s.a ^^^ (readOperand o s).value)
        elapsed := s.elapsed + instrCycles s.cfg op (readOperand o s).crossed 0 } := by
  simp [eorA, State.setZN, State.ext_iff]
end

/-! ### Operations on memory -/

section
variable (op : Byte) (o : MemOperand) (s : State)

/-- BIT changes Z, N and V (R164). -/
theorem bitTest_eq :
    bitTest op o s =
      .next { (readOperand (.memory o) s).after with
        p := Status.bitTest s.a (readOperand (.memory o) s).value s.p
        elapsed := s.elapsed + instrCycles s.cfg op (readOperand (.memory o) s).crossed 0 } := by
  simp [bitTest, State.ext_iff]

/-- A store changes one byte (R120). -/
theorem store_eq (v : Byte) :
    store op v o s =
      .next { (resolve o s).after with
        mem := s.memAfterWrite (resolve o s).addr v
        elapsed := s.elapsed + instrCycles s.cfg op (resolve o s).crossed 0
        bus := (resolve o s).after.bus ++ [.write (resolve o s).addr v]
        portEvents := (resolve o s).after.portEvents + 1 } := by
  simp [store, State.ext_iff]

/-- A shift of memory changes one byte, C, Z and N (R160). -/
theorem shiftMem_eq (f : Byte → Bool → Byte × Bool) :
    shiftMem op f o s =
      .next { (resolve o s).after with
        p := s.p.shifted (f (s.answerAt (resolve o s).after.portEvents (resolve o s).addr) s.p.c)
        mem := s.memAfterWrite (resolve o s).addr (f (s.answerAt (resolve o s).after.portEvents (resolve o s).addr) s.p.c).1
        elapsed := s.elapsed + instrCycles s.cfg op (resolve o s).crossed 0
        bus := (resolve o s).after.bus ++
          [.read (resolve o s).addr (s.answerAt (resolve o s).after.portEvents (resolve o s).addr),
           .write (resolve o s).addr (f (s.answerAt (resolve o s).after.portEvents (resolve o s).addr) s.p.c).1]
        portEvents := (resolve o s).after.portEvents + 2 } := by
  simp [shiftMem, State.ext_iff]

/-- INC changes one byte, Z and N (R146). -/
theorem incMem_eq :
    incMem op o s =
      .next { (resolve o s).after with
        p := s.p.setZN (s.answerAt (resolve o s).after.portEvents (resolve o s).addr + 1)
        mem := s.memAfterWrite (resolve o s).addr (s.answerAt (resolve o s).after.portEvents (resolve o s).addr + 1)
        elapsed := s.elapsed + instrCycles s.cfg op (resolve o s).crossed 0
        bus := (resolve o s).after.bus ++
          [.read (resolve o s).addr (s.answerAt (resolve o s).after.portEvents (resolve o s).addr),
           .write (resolve o s).addr (s.answerAt (resolve o s).after.portEvents (resolve o s).addr + 1)]
        portEvents := (resolve o s).after.portEvents + 2 } := by
  simp [incMem, State.setZN, State.ext_iff]

/-- DEC changes one byte, Z and N (R149). -/
theorem decMem_eq :
    decMem op o s =
      .next { (resolve o s).after with
        p := s.p.setZN (s.answerAt (resolve o s).after.portEvents (resolve o s).addr - 1)
        mem := s.memAfterWrite (resolve o s).addr (s.answerAt (resolve o s).after.portEvents (resolve o s).addr - 1)
        elapsed := s.elapsed + instrCycles s.cfg op (resolve o s).crossed 0
        bus := (resolve o s).after.bus ++
          [.read (resolve o s).addr (s.answerAt (resolve o s).after.portEvents (resolve o s).addr),
           .write (resolve o s).addr (s.answerAt (resolve o s).after.portEvents (resolve o s).addr - 1)]
        portEvents := (resolve o s).after.portEvents + 2 } := by
  simp [decMem, State.setZN, State.ext_iff]

/-- JMP changes PC (R201). -/
theorem jump_eq :
    jump op o s =
      .next { (resolve o s).after with
        pc := (resolve o s).addr
        elapsed := s.elapsed + instrCycles s.cfg op (resolve o s).crossed 0 } := by
  simp [jump, State.ext_iff]
end

/-! ### Operations on registers, the stack and PC -/

/-- A shift of A changes A, C, Z and N (R165 to R168). -/
theorem shiftA_eq (op : Byte) (f : Byte → Bool → Byte × Bool) (s : State) :
    shiftA op f s =
      .next { s with
        a := (f s.a s.p.c).1
        p := s.p.shifted (f s.a s.p.c)
        elapsed := s.elapsed + instrCycles s.cfg op false 0 } := rfl

/-- A branch changes PC when it is taken, and nothing else (R206). -/
theorem branch_eq (op : Byte) (cond : Bool) (rel : Byte) (s : State) :
    branch op cond rel s =
      .next { s with
        pc := if cond then branchTarget rel s else s.pc
        elapsed := s.elapsed +
          instrCycles s.cfg op false (if cond then (if branchCrossed rel s then 2 else 1) else 0) } := by
  cases cond <;> rfl

/-- JSR pushes two bytes and changes PC (R202). -/
theorem callSubroutine_eq (target : Word) (s : State) :
    callSubroutine target s = { push16 (s.pc - 1) s with pc := target } := rfl

/-- RTS pulls two bytes and changes PC (R203). -/
theorem returnFromSubroutine_eq (s : State) :
    returnFromSubroutine s = { (pull16 s).2 with pc := (pull16 s).1 + 1 } := rfl

/-- RTI pulls three bytes and changes P and PC (R205). -/
theorem returnFromInterrupt_eq (s : State) :
    returnFromInterrupt s =
      { (pull16 ((pull8 s).2.setP (Status.ofPulled (pull8 s).1))).2 with
        pc := (pull16 ((pull8 s).2.setP (Status.ofPulled (pull8 s).1))).1 } := rfl

/-- BRK is the entry through the IRQ vector with another return address (R204). -/
theorem softwareInterrupt_eq (s : State) :
    softwareInterrupt s =
      interruptEntry irqVector true { s with pc := s.pc + BitVec.ofNat 16 s.cfg.brkPcPushOffset - 1 } := rfl

/-- The fallback Operation changes PC, whichever illegal opcode it is (R90). -/
theorem execIll_eq (opcode : Byte) (s : State) :
    execIll opcode s =
      .next { s with
        pc := s.pc + BitVec.ofNat 16 s.cfg.illegalOperandBytes
        elapsed := s.elapsed + s.cfg.illegalCycles } := rfl

/-! ### Memory stays canonical -/

theorem callSubroutine_wf {s : State} (h : s.mem.wf = true) (target : Word) : (callSubroutine target s).mem.wf = true :=
  push16_wf h _

@[simp] theorem returnFromSubroutine_mem (s : State) : (returnFromSubroutine s).mem = s.mem := rfl

@[simp] theorem returnFromInterrupt_mem (s : State) : (returnFromInterrupt s).mem = s.mem := by
  simp [returnFromInterrupt, pull16]

theorem softwareInterrupt_wf {s : State} (h : s.mem.wf = true) : (softwareInterrupt s).mem.wf = true := by
  rw [softwareInterrupt]
  exact interruptEntry_wf (by simpa using h) _ _

end Sys2Proof.Machine
end

