-- ==== Sys2Proof/Laws/PerInstr.lean ====
section
/-! SUPPORT. Laws stated for each instruction as syntax. `EncodeLength`: the encoding of a well-formed instruction is its
opcode byte and as many operand bytes as the opcode's mode has (R80, R81). -/

namespace Sys2Proof.Laws.EncodeLength

/-- The encoding begins with an opcode byte whose operand width is the number of the bytes after it (R81). -/
def Statement (i : Instr) : Prop :=
  i.wellFormed = true → ∃ op bytes, encode i = op :: bytes ∧ operandWidth op = bytes.length

/-- The operand width of every value of R91's list is 0: nothing after the opcode is read (R90). -/
theorem operandWidth_of_isIllegal : ∀ op : Byte, isIllegal op = true → operandWidth op = 0 := by decide

theorem ldaImm (v : Byte) : Statement (.ldaImm v) := fun _ => ⟨_, _, rfl, rfl⟩
theorem ldaZp (zp : Byte) : Statement (.ldaZp zp) := fun _ => ⟨_, _, rfl, rfl⟩
theorem ldaZpX (zp : Byte) : Statement (.ldaZpX zp) := fun _ => ⟨_, _, rfl, rfl⟩
theorem ldaAbs (addr : Word) : Statement (.ldaAbs addr) := fun _ => ⟨_, _, rfl, rfl⟩
theorem ldaAbsX (addr : Word) : Statement (.ldaAbsX addr) := fun _ => ⟨_, _, rfl, rfl⟩
theorem ldaAbsY (addr : Word) : Statement (.ldaAbsY addr) := fun _ => ⟨_, _, rfl, rfl⟩
theorem ldaIndX (zp : Byte) : Statement (.ldaIndX zp) := fun _ => ⟨_, _, rfl, rfl⟩
theorem ldaIndY (zp : Byte) : Statement (.ldaIndY zp) := fun _ => ⟨_, _, rfl, rfl⟩
theorem ldxImm (v : Byte) : Statement (.ldxImm v) := fun _ => ⟨_, _, rfl, rfl⟩
theorem ldxZp (zp : Byte) : Statement (.ldxZp zp) := fun _ => ⟨_, _, rfl, rfl⟩
theorem ldxZpY (zp : Byte) : Statement (.ldxZpY zp) := fun _ => ⟨_, _, rfl, rfl⟩
theorem ldxAbs (addr : Word) : Statement (.ldxAbs addr) := fun _ => ⟨_, _, rfl, rfl⟩
theorem ldxAbsY (addr : Word) : Statement (.ldxAbsY addr) := fun _ => ⟨_, _, rfl, rfl⟩
theorem ldyImm (v : Byte) : Statement (.ldyImm v) := fun _ => ⟨_, _, rfl, rfl⟩
theorem ldyZp (zp : Byte) : Statement (.ldyZp zp) := fun _ => ⟨_, _, rfl, rfl⟩
theorem ldyZpX (zp : Byte) : Statement (.ldyZpX zp) := fun _ => ⟨_, _, rfl, rfl⟩
theorem ldyAbs (addr : Word) : Statement (.ldyAbs addr) := fun _ => ⟨_, _, rfl, rfl⟩
theorem ldyAbsX (addr : Word) : Statement (.ldyAbsX addr) := fun _ => ⟨_, _, rfl, rfl⟩
theorem staZp (zp : Byte) : Statement (.staZp zp) := fun _ => ⟨_, _, rfl, rfl⟩
theorem staZpX (zp : Byte) : Statement (.staZpX zp) := fun _ => ⟨_, _, rfl, rfl⟩
theorem staAbs (addr : Word) : Statement (.staAbs addr) := fun _ => ⟨_, _, rfl, rfl⟩
theorem staAbsX (addr : Word) : Statement (.staAbsX addr) := fun _ => ⟨_, _, rfl, rfl⟩
theorem staAbsY (addr : Word) : Statement (.staAbsY addr) := fun _ => ⟨_, _, rfl, rfl⟩
theorem staIndX (zp : Byte) : Statement (.staIndX zp) := fun _ => ⟨_, _, rfl, rfl⟩
theorem staIndY (zp : Byte) : Statement (.staIndY zp) := fun _ => ⟨_, _, rfl, rfl⟩
theorem stxZp (zp : Byte) : Statement (.stxZp zp) := fun _ => ⟨_, _, rfl, rfl⟩
theorem stxZpY (zp : Byte) : Statement (.stxZpY zp) := fun _ => ⟨_, _, rfl, rfl⟩
theorem stxAbs (addr : Word) : Statement (.stxAbs addr) := fun _ => ⟨_, _, rfl, rfl⟩
theorem styZp (zp : Byte) : Statement (.styZp zp) := fun _ => ⟨_, _, rfl, rfl⟩
theorem styZpX (zp : Byte) : Statement (.styZpX zp) := fun _ => ⟨_, _, rfl, rfl⟩
theorem styAbs (addr : Word) : Statement (.styAbs addr) := fun _ => ⟨_, _, rfl, rfl⟩
theorem tax : Statement .tax := fun _ => ⟨_, _, rfl, rfl⟩
theorem tay : Statement .tay := fun _ => ⟨_, _, rfl, rfl⟩
theorem txa : Statement .txa := fun _ => ⟨_, _, rfl, rfl⟩
theorem tya : Statement .tya := fun _ => ⟨_, _, rfl, rfl⟩
theorem txs : Statement .txs := fun _ => ⟨_, _, rfl, rfl⟩
theorem tsx : Statement .tsx := fun _ => ⟨_, _, rfl, rfl⟩
theorem adcImm (v : Byte) : Statement (.adcImm v) := fun _ => ⟨_, _, rfl, rfl⟩
theorem adcZp (zp : Byte) : Statement (.adcZp zp) := fun _ => ⟨_, _, rfl, rfl⟩
theorem adcZpX (zp : Byte) : Statement (.adcZpX zp) := fun _ => ⟨_, _, rfl, rfl⟩
theorem adcAbs (addr : Word) : Statement (.adcAbs addr) := fun _ => ⟨_, _, rfl, rfl⟩
theorem adcAbsX (addr : Word) : Statement (.adcAbsX addr) := fun _ => ⟨_, _, rfl, rfl⟩
theorem adcAbsY (addr : Word) : Statement (.adcAbsY addr) := fun _ => ⟨_, _, rfl, rfl⟩
theorem adcIndX (zp : Byte) : Statement (.adcIndX zp) := fun _ => ⟨_, _, rfl, rfl⟩
theorem adcIndY (zp : Byte) : Statement (.adcIndY zp) := fun _ => ⟨_, _, rfl, rfl⟩
theorem sbcImm (v : Byte) : Statement (.sbcImm v) := fun _ => ⟨_, _, rfl, rfl⟩
theorem sbcZp (zp : Byte) : Statement (.sbcZp zp) := fun _ => ⟨_, _, rfl, rfl⟩
theorem sbcZpX (zp : Byte) : Statement (.sbcZpX zp) := fun _ => ⟨_, _, rfl, rfl⟩
theorem sbcAbs (addr : Word) : Statement (.sbcAbs addr) := fun _ => ⟨_, _, rfl, rfl⟩
theorem sbcAbsX (addr : Word) : Statement (.sbcAbsX addr) := fun _ => ⟨_, _, rfl, rfl⟩
theorem sbcAbsY (addr : Word) : Statement (.sbcAbsY addr) := fun _ => ⟨_, _, rfl, rfl⟩
theorem sbcIndX (zp : Byte) : Statement (.sbcIndX zp) := fun _ => ⟨_, _, rfl, rfl⟩
theorem sbcIndY (zp : Byte) : Statement (.sbcIndY zp) := fun _ => ⟨_, _, rfl, rfl⟩
theorem cmpImm (v : Byte) : Statement (.cmpImm v) := fun _ => ⟨_, _, rfl, rfl⟩
theorem cmpZp (zp : Byte) : Statement (.cmpZp zp) := fun _ => ⟨_, _, rfl, rfl⟩
theorem cmpZpX (zp : Byte) : Statement (.cmpZpX zp) := fun _ => ⟨_, _, rfl, rfl⟩
theorem cmpAbs (addr : Word) : Statement (.cmpAbs addr) := fun _ => ⟨_, _, rfl, rfl⟩
theorem cmpAbsX (addr : Word) : Statement (.cmpAbsX addr) := fun _ => ⟨_, _, rfl, rfl⟩
theorem cmpAbsY (addr : Word) : Statement (.cmpAbsY addr) := fun _ => ⟨_, _, rfl, rfl⟩
theorem cmpIndX (zp : Byte) : Statement (.cmpIndX zp) := fun _ => ⟨_, _, rfl, rfl⟩
theorem cmpIndY (zp : Byte) : Statement (.cmpIndY zp) := fun _ => ⟨_, _, rfl, rfl⟩
theorem cpxImm (v : Byte) : Statement (.cpxImm v) := fun _ => ⟨_, _, rfl, rfl⟩
theorem cpxZp (zp : Byte) : Statement (.cpxZp zp) := fun _ => ⟨_, _, rfl, rfl⟩
theorem cpxAbs (addr : Word) : Statement (.cpxAbs addr) := fun _ => ⟨_, _, rfl, rfl⟩
theorem cpyImm (v : Byte) : Statement (.cpyImm v) := fun _ => ⟨_, _, rfl, rfl⟩
theorem cpyZp (zp : Byte) : Statement (.cpyZp zp) := fun _ => ⟨_, _, rfl, rfl⟩
theorem cpyAbs (addr : Word) : Statement (.cpyAbs addr) := fun _ => ⟨_, _, rfl, rfl⟩
theorem incZp (zp : Byte) : Statement (.incZp zp) := fun _ => ⟨_, _, rfl, rfl⟩
theorem incZpX (zp : Byte) : Statement (.incZpX zp) := fun _ => ⟨_, _, rfl, rfl⟩
theorem incAbs (addr : Word) : Statement (.incAbs addr) := fun _ => ⟨_, _, rfl, rfl⟩
theorem incAbsX (addr : Word) : Statement (.incAbsX addr) := fun _ => ⟨_, _, rfl, rfl⟩
theorem inx : Statement .inx := fun _ => ⟨_, _, rfl, rfl⟩
theorem iny : Statement .iny := fun _ => ⟨_, _, rfl, rfl⟩
theorem decZp (zp : Byte) : Statement (.decZp zp) := fun _ => ⟨_, _, rfl, rfl⟩
theorem decZpX (zp : Byte) : Statement (.decZpX zp) := fun _ => ⟨_, _, rfl, rfl⟩
theorem decAbs (addr : Word) : Statement (.decAbs addr) := fun _ => ⟨_, _, rfl, rfl⟩
theorem decAbsX (addr : Word) : Statement (.decAbsX addr) := fun _ => ⟨_, _, rfl, rfl⟩
theorem dex : Statement .dex := fun _ => ⟨_, _, rfl, rfl⟩
theorem dey : Statement .dey := fun _ => ⟨_, _, rfl, rfl⟩
theorem andImm (v : Byte) : Statement (.andImm v) := fun _ => ⟨_, _, rfl, rfl⟩
theorem andZp (zp : Byte) : Statement (.andZp zp) := fun _ => ⟨_, _, rfl, rfl⟩
theorem andZpX (zp : Byte) : Statement (.andZpX zp) := fun _ => ⟨_, _, rfl, rfl⟩
theorem andAbs (addr : Word) : Statement (.andAbs addr) := fun _ => ⟨_, _, rfl, rfl⟩
theorem andAbsX (addr : Word) : Statement (.andAbsX addr) := fun _ => ⟨_, _, rfl, rfl⟩
theorem andAbsY (addr : Word) : Statement (.andAbsY addr) := fun _ => ⟨_, _, rfl, rfl⟩
theorem andIndX (zp : Byte) : Statement (.andIndX zp) := fun _ => ⟨_, _, rfl, rfl⟩
theorem andIndY (zp : Byte) : Statement (.andIndY zp) := fun _ => ⟨_, _, rfl, rfl⟩
theorem oraImm (v : Byte) : Statement (.oraImm v) := fun _ => ⟨_, _, rfl, rfl⟩
theorem oraZp (zp : Byte) : Statement (.oraZp zp) := fun _ => ⟨_, _, rfl, rfl⟩
theorem oraZpX (zp : Byte) : Statement (.oraZpX zp) := fun _ => ⟨_, _, rfl, rfl⟩
theorem oraAbs (addr : Word) : Statement (.oraAbs addr) := fun _ => ⟨_, _, rfl, rfl⟩
theorem oraAbsX (addr : Word) : Statement (.oraAbsX addr) := fun _ => ⟨_, _, rfl, rfl⟩
theorem oraAbsY (addr : Word) : Statement (.oraAbsY addr) := fun _ => ⟨_, _, rfl, rfl⟩
theorem oraIndX (zp : Byte) : Statement (.oraIndX zp) := fun _ => ⟨_, _, rfl, rfl⟩
theorem oraIndY (zp : Byte) : Statement (.oraIndY zp) := fun _ => ⟨_, _, rfl, rfl⟩
theorem eorImm (v : Byte) : Statement (.eorImm v) := fun _ => ⟨_, _, rfl, rfl⟩
theorem eorZp (zp : Byte) : Statement (.eorZp zp) := fun _ => ⟨_, _, rfl, rfl⟩
theorem eorZpX (zp : Byte) : Statement (.eorZpX zp) := fun _ => ⟨_, _, rfl, rfl⟩
theorem eorAbs (addr : Word) : Statement (.eorAbs addr) := fun _ => ⟨_, _, rfl, rfl⟩
theorem eorAbsX (addr : Word) : Statement (.eorAbsX addr) := fun _ => ⟨_, _, rfl, rfl⟩
theorem eorAbsY (addr : Word) : Statement (.eorAbsY addr) := fun _ => ⟨_, _, rfl, rfl⟩
theorem eorIndX (zp : Byte) : Statement (.eorIndX zp) := fun _ => ⟨_, _, rfl, rfl⟩
theorem eorIndY (zp : Byte) : Statement (.eorIndY zp) := fun _ => ⟨_, _, rfl, rfl⟩
theorem bitZp (zp : Byte) : Statement (.bitZp zp) := fun _ => ⟨_, _, rfl, rfl⟩
theorem bitAbs (addr : Word) : Statement (.bitAbs addr) := fun _ => ⟨_, _, rfl, rfl⟩
theorem aslA : Statement .aslA := fun _ => ⟨_, _, rfl, rfl⟩
theorem aslZp (zp : Byte) : Statement (.aslZp zp) := fun _ => ⟨_, _, rfl, rfl⟩
theorem aslZpX (zp : Byte) : Statement (.aslZpX zp) := fun _ => ⟨_, _, rfl, rfl⟩
theorem aslAbs (addr : Word) : Statement (.aslAbs addr) := fun _ => ⟨_, _, rfl, rfl⟩
theorem aslAbsX (addr : Word) : Statement (.aslAbsX addr) := fun _ => ⟨_, _, rfl, rfl⟩
theorem lsrA : Statement .lsrA := fun _ => ⟨_, _, rfl, rfl⟩
theorem lsrZp (zp : Byte) : Statement (.lsrZp zp) := fun _ => ⟨_, _, rfl, rfl⟩
theorem lsrZpX (zp : Byte) : Statement (.lsrZpX zp) := fun _ => ⟨_, _, rfl, rfl⟩
theorem lsrAbs (addr : Word) : Statement (.lsrAbs addr) := fun _ => ⟨_, _, rfl, rfl⟩
theorem lsrAbsX (addr : Word) : Statement (.lsrAbsX addr) := fun _ => ⟨_, _, rfl, rfl⟩
theorem rolA : Statement .rolA := fun _ => ⟨_, _, rfl, rfl⟩
theorem rolZp (zp : Byte) : Statement (.rolZp zp) := fun _ => ⟨_, _, rfl, rfl⟩
theorem rolZpX (zp : Byte) : Statement (.rolZpX zp) := fun _ => ⟨_, _, rfl, rfl⟩
theorem rolAbs (addr : Word) : Statement (.rolAbs addr) := fun _ => ⟨_, _, rfl, rfl⟩
theorem rolAbsX (addr : Word) : Statement (.rolAbsX addr) := fun _ => ⟨_, _, rfl, rfl⟩
theorem rorA : Statement .rorA := fun _ => ⟨_, _, rfl, rfl⟩
theorem rorZp (zp : Byte) : Statement (.rorZp zp) := fun _ => ⟨_, _, rfl, rfl⟩
theorem rorZpX (zp : Byte) : Statement (.rorZpX zp) := fun _ => ⟨_, _, rfl, rfl⟩
theorem rorAbs (addr : Word) : Statement (.rorAbs addr) := fun _ => ⟨_, _, rfl, rfl⟩
theorem rorAbsX (addr : Word) : Statement (.rorAbsX addr) := fun _ => ⟨_, _, rfl, rfl⟩
theorem pha : Statement .pha := fun _ => ⟨_, _, rfl, rfl⟩
theorem php : Statement .php := fun _ => ⟨_, _, rfl, rfl⟩
theorem pla : Statement .pla := fun _ => ⟨_, _, rfl, rfl⟩
theorem plp : Statement .plp := fun _ => ⟨_, _, rfl, rfl⟩
theorem clc : Statement .clc := fun _ => ⟨_, _, rfl, rfl⟩
theorem sec : Statement .sec := fun _ => ⟨_, _, rfl, rfl⟩
theorem cli : Statement .cli := fun _ => ⟨_, _, rfl, rfl⟩
theorem sei : Statement .sei := fun _ => ⟨_, _, rfl, rfl⟩
theorem clv : Statement .clv := fun _ => ⟨_, _, rfl, rfl⟩
theorem cld : Statement .cld := fun _ => ⟨_, _, rfl, rfl⟩
theorem sed : Statement .sed := fun _ => ⟨_, _, rfl, rfl⟩
theorem nop : Statement .nop := fun _ => ⟨_, _, rfl, rfl⟩
theorem jmpAbs (addr : Word) : Statement (.jmpAbs addr) := fun _ => ⟨_, _, rfl, rfl⟩
theorem jmpInd (ptr : Word) : Statement (.jmpInd ptr) := fun _ => ⟨_, _, rfl, rfl⟩
theorem jsrAbs (addr : Word) : Statement (.jsrAbs addr) := fun _ => ⟨_, _, rfl, rfl⟩
theorem rts : Statement .rts := fun _ => ⟨_, _, rfl, rfl⟩
theorem brk : Statement .brk := fun _ => ⟨_, _, rfl, rfl⟩
theorem rti : Statement .rti := fun _ => ⟨_, _, rfl, rfl⟩
theorem bcc (rel : Byte) : Statement (.bcc rel) := fun _ => ⟨_, _, rfl, rfl⟩
theorem bcs (rel : Byte) : Statement (.bcs rel) := fun _ => ⟨_, _, rfl, rfl⟩
theorem beq (rel : Byte) : Statement (.beq rel) := fun _ => ⟨_, _, rfl, rfl⟩
theorem bne (rel : Byte) : Statement (.bne rel) := fun _ => ⟨_, _, rfl, rfl⟩
theorem bmi (rel : Byte) : Statement (.bmi rel) := fun _ => ⟨_, _, rfl, rfl⟩
theorem bpl (rel : Byte) : Statement (.bpl rel) := fun _ => ⟨_, _, rfl, rfl⟩
theorem bvc (rel : Byte) : Statement (.bvc rel) := fun _ => ⟨_, _, rfl, rfl⟩
theorem bvs (rel : Byte) : Statement (.bvs rel) := fun _ => ⟨_, _, rfl, rfl⟩
theorem ill (opcode : Byte) : Statement (.ill opcode) := fun h => ⟨opcode, [], rfl, operandWidth_of_isIllegal opcode h⟩

end Sys2Proof.Laws.EncodeLength
end

