-- ==== Sys2Proof/Laws/Step.lean ====
section
/-! SUPPORT. The parts of a step: what fetching and servicing an interrupt do, and the step by run state. -/

namespace Sys2Proof.Machine

/-- Fetching one byte gives the answer at PC, logs the read and advances PC. -/
@[simp] theorem fetchByte_eq (s : State) :
    fetchByte s =
      (s.answerAt s.portEvents s.pc, (s.logEvent (.read s.pc (s.answerAt s.portEvents s.pc))).setPc (s.pc + 1)) := rfl

/-- A fetch changes PC and adds bus events, and nothing else. -/
theorem fetch_state_eq (s : State) :
    ∃ q es, (fetch s).2 = { s with pc := q, bus := s.bus ++ es, portEvents := s.portEvents + es.length } := by
  have h1 : ∀ u : State, ∃ q es,
      (fetchByte u).2 = { u with pc := q, bus := u.bus ++ es, portEvents := u.portEvents + es.length } :=
    fun u => ⟨u.pc + 1, [.read u.pc (u.answerAt u.portEvents u.pc)], rfl⟩
  obtain ⟨q1, e1, h1'⟩ := h1 s
  obtain ⟨q2, e2, h2'⟩ := h1 (fetchByte s).2
  obtain ⟨q3, e3, h3'⟩ := h1 (fetchByte (fetchByte s).2).2
  dsimp only [fetch]
  split
  · exact ⟨q1, e1, h1'⟩
  · exact ⟨q2, e1 ++ e2, by simp only [h2']; rw [h1']; simp [Nat.add_assoc]⟩
  · exact ⟨q3, e1 ++ e2 ++ e3, by simp only [h3']; rw [h2', h1']; simp [Nat.add_assoc]⟩

section
variable (s : State)
@[simp] theorem fetch_a : (fetch s).2.a = s.a := by
  obtain ⟨q, es, h⟩ := fetch_state_eq s; rw [h]
@[simp] theorem fetch_x : (fetch s).2.x = s.x := by
  obtain ⟨q, es, h⟩ := fetch_state_eq s; rw [h]
@[simp] theorem fetch_y : (fetch s).2.y = s.y := by
  obtain ⟨q, es, h⟩ := fetch_state_eq s; rw [h]
@[simp] theorem fetch_sp : (fetch s).2.sp = s.sp := by
  obtain ⟨q, es, h⟩ := fetch_state_eq s; rw [h]
@[simp] theorem fetch_p : (fetch s).2.p = s.p := by
  obtain ⟨q, es, h⟩ := fetch_state_eq s; rw [h]
@[simp] theorem fetch_pendingNmi : (fetch s).2.pendingNmi = s.pendingNmi := by
  obtain ⟨q, es, h⟩ := fetch_state_eq s; rw [h]
@[simp] theorem fetch_pendingIrq : (fetch s).2.pendingIrq = s.pendingIrq := by
  obtain ⟨q, es, h⟩ := fetch_state_eq s; rw [h]
@[simp] theorem fetch_runState : (fetch s).2.runState = s.runState := by
  obtain ⟨q, es, h⟩ := fetch_state_eq s; rw [h]
@[simp] theorem fetch_mem : (fetch s).2.mem = s.mem := by
  obtain ⟨q, es, h⟩ := fetch_state_eq s; rw [h]
@[simp] theorem fetch_addressMap : (fetch s).2.addressMap = s.addressMap := by
  obtain ⟨q, es, h⟩ := fetch_state_eq s; rw [h]
@[simp] theorem fetch_cfg : (fetch s).2.cfg = s.cfg := by
  obtain ⟨q, es, h⟩ := fetch_state_eq s; rw [h]
@[simp] theorem fetch_elapsed : (fetch s).2.elapsed = s.elapsed := by
  obtain ⟨q, es, h⟩ := fetch_state_eq s; rw [h]
end

/-- Making addresses plain memory leaves every plain address plain. -/
theorem plainIn_plainFrom (addr : Word) (count : Nat) {map : List Region} {a : Word} (h : plainIn map a = true) :
    plainIn (plainFrom addr count map) a = true := by
  induction count generalizing addr map with
  | zero => exact h
  | succ k ih =>
    refine ih (addr + 1) ?_
    split
    · exact h
    · simp [plainIn, h]

/-- Every address that `plainFrom` covers is plain memory after it. -/
theorem plainIn_plainFrom_self (addr : Word) (count : Nat) (map : List Region) {k : Nat} (h : k < count) :
    plainIn (plainFrom addr count map) (addr + BitVec.ofNat 16 k) = true := by
  induction count generalizing addr map k with
  | zero => omega
  | succ c ih =>
    cases k with
    | zero =>
      rw [plainFrom, show addr + BitVec.ofNat 16 0 = addr by simp]
      apply plainIn_plainFrom
      split
      · assumption
      · simp [plainIn]
    | succ k =>
      have := ih (addr + 1) (if plainIn map addr then map else { first := addr, last := addr, plain := true } :: map)
        (k := k) (by omega)
      rw [show addr + BitVec.ofNat 16 (k + 1) = addr + 1 + BitVec.ofNat 16 k by
        apply BitVec.eq_of_toNat_eq; simp [BitVec.toNat_add]; omega]
      exact this

/-- Placing bytes keeps the canonical form of memory. -/
theorem placeBytes_wf (addr : Word) (bytes : List Byte) {m : Memory} (h : m.wf = true) :
    (placeBytes addr bytes m).wf = true := by
  induction bytes generalizing addr m with
  | nil => exact h
  | cons b rest ih => exact ih (addr + 1) (Memory.wf_write h addr b)

/-- So does placing an instruction where the machine fetches. -/
theorem withFetchWord_wf {s : State} (h : s.mem.wf = true) (nbits w : Nat) : (s.withFetchWord nbits w).mem.wf = true :=
  placeBytes_wf _ _ h

/-- Every address an instruction was placed at is plain memory: a fetch there returns what was placed. -/
theorem withFetchWord_isPlain (s : State) (nbits w : Nat) {k : Nat} (h : k < (tableWordBytes nbits w).length) :
    (s.withFetchWord nbits w).isPlain (s.pc + BitVec.ofNat 16 k) = true :=
  plainIn_plainFrom_self _ _ _ h

/-- What a step does before it fetches: nothing, or the entry of the one interrupt that is due (R240, R241). -/
theorem serviceInterrupts_cases (s : State) :
    (s.pendingNmi = true ∧ serviceInterrupts s = service .nmi s) ∨
    (s.pendingNmi = false ∧ s.pendingIrq = true ∧ s.p.i = false ∧ serviceInterrupts s = service .irq s) ∨
    (s.pendingNmi = false ∧ (s.pendingIrq = false ∨ s.p.i = true) ∧ serviceInterrupts s = s) := by
  unfold serviceInterrupts dueInterrupt
  cases hn : s.pendingNmi <;> cases hq : s.pendingIrq <;> cases hi : s.p.i <;> simp

/-- The memory and parameters of a serviced state: canonical if they were, and unchanged. -/
theorem service_wf {s : State} (h : s.mem.wf = true) (k : InterruptKind) : (service k s).mem.wf = true := by
  unfold service
  rw [State.addCycles_mem]
  exact interruptEntry_wf (by simpa using h) _ _

theorem serviceInterrupts_wf {s : State} (h : s.mem.wf = true) : (serviceInterrupts s).mem.wf = true := by
  rcases serviceInterrupts_cases s with ⟨_, e⟩ | ⟨_, _, _, e⟩ | ⟨_, _, e⟩ <;> rw [e]
  · exact service_wf h _
  · exact service_wf h _
  · exact h

section
variable (k : InterruptKind) (s : State)
@[simp] theorem service_a : (service k s).a = s.a := by simp [service]
@[simp] theorem service_x : (service k s).x = s.x := by simp [service]
@[simp] theorem service_y : (service k s).y = s.y := by simp [service]
@[simp] theorem service_runState : (service k s).runState = s.runState := by simp [service]
@[simp] theorem service_addressMap : (service k s).addressMap = s.addressMap := by simp [service]
@[simp] theorem service_cfg : (service k s).cfg = s.cfg := by simp [service]
end

section
variable (s : State)
@[simp] theorem serviceInterrupts_a : (serviceInterrupts s).a = s.a := by
  unfold serviceInterrupts; split <;> simp
@[simp] theorem serviceInterrupts_x : (serviceInterrupts s).x = s.x := by
  unfold serviceInterrupts; split <;> simp
@[simp] theorem serviceInterrupts_y : (serviceInterrupts s).y = s.y := by
  unfold serviceInterrupts; split <;> simp
@[simp] theorem serviceInterrupts_runState : (serviceInterrupts s).runState = s.runState := by
  unfold serviceInterrupts; split <;> simp
@[simp] theorem serviceInterrupts_addressMap : (serviceInterrupts s).addressMap = s.addressMap := by
  unfold serviceInterrupts; split <;> simp
@[simp] theorem serviceInterrupts_cfg : (serviceInterrupts s).cfg = s.cfg := by
  unfold serviceInterrupts; split <;> simp
end

/-- A halted machine reports the error value (R252). -/
theorem step_halted {s : State} (h : s.runState = .halted) : step s = .fault .steppedWhileHalted := by
  simp [step, h]

/-- A running machine services what is due, fetches, and runs what it fetched (R240, R82). -/
theorem step_running {s : State} (h : s.runState = .running) :
    step s = exec (fetch (serviceInterrupts (clearOutputs s))).1 (fetch (serviceInterrupts (clearOutputs s))).2 := by
  simp [step, h, executeOne]

end Sys2Proof.Machine
end

