-- ==== Sys2Proof/Tests/Slice0.lean ====
section
/-! SUPPORT. The model's own tests: the well-formedness smoke test; a word for each constructor, written out bit by bit from
the spec's encodings; single steps with the results of spec/95_test_vectors.md (its row's id is in the test's name);
the two definitions the host calls; and a witness for the hypotheses of each statement that has some. -/

namespace Sys2Proof.Tests

open Sys2Proof.Machine Sys2Proof.Claims

/-! ### Well-formedness -/

/-- The one check: `ill` must carry a value of R91's list. 0xA9, 0x00 and 0xEA are legal opcodes. -/
theorem test_wellFormed_refuses_legal_opcode_as_illegal :
    (Instr.ill 0xA9).wellFormed = false ∧ (Instr.ill 0x00).wellFormed = false ∧ (Instr.ill 0xEA).wellFormed = false := by
  decide

theorem test_wellFormed_accepts_illegal_opcodes :
    (Instr.ill 0x02).wellFormed = true ∧ (Instr.ill 0xFF).wellFormed = true ∧ (Instr.ldaImm 0x05).wellFormed = true := by
  decide

/-- R91 lists 105 values. -/
theorem test_illegal_count : illegalOpcodes.length = 105 ∧ illegalOpcodes.Nodup := by decide

/-! ### Decoding: words written out from the spec's encodings (R83, R84) -/

/-- The instruction read from some bytes, when none is left over. -/
def reads1 (bytes : List Byte) : Option Instr :=
  match decode bytes with
  | .ok (i, []) => some i
  | _ => none

theorem test_decode_lda :
    reads1 [0b10101001, 0x38] = some (.ldaImm 0x38) ∧
    reads1 [0b10100101, 0x3F] = some (.ldaZp 0x3F) ∧
    reads1 [0b10110101, 0x46] = some (.ldaZpX 0x46) ∧
    reads1 [0b10101101, 0x4D, 0xB0] = some (.ldaAbs 0xB04D) ∧
    reads1 [0b10111101, 0x54, 0xBB] = some (.ldaAbsX 0xBB54) ∧
    reads1 [0b10111001, 0x5B, 0xC6] = some (.ldaAbsY 0xC65B) ∧
    reads1 [0b10100001, 0x62] = some (.ldaIndX 0x62) ∧
    reads1 [0b10110001, 0x69] = some (.ldaIndY 0x69) := by
  decide

theorem test_decode_ldx :
    reads1 [0b10100010, 0x70] = some (.ldxImm 0x70) ∧
    reads1 [0b10100110, 0x77] = some (.ldxZp 0x77) ∧
    reads1 [0b10110110, 0x7E] = some (.ldxZpY 0x7E) ∧
    reads1 [0b10101110, 0x85, 0x08] = some (.ldxAbs 0x0885) ∧
    reads1 [0b10111110, 0x8C, 0x13] = some (.ldxAbsY 0x138C) := by
  decide

theorem test_decode_ldy :
    reads1 [0b10100000, 0x93] = some (.ldyImm 0x93) ∧
    reads1 [0b10100100, 0x9A] = some (.ldyZp 0x9A) ∧
    reads1 [0b10110100, 0xA1] = some (.ldyZpX 0xA1) ∧
    reads1 [0b10101100, 0xA8, 0x3F] = some (.ldyAbs 0x3FA8) ∧
    reads1 [0b10111100, 0xAF, 0x4A] = some (.ldyAbsX 0x4AAF) := by
  decide

theorem test_decode_sta :
    reads1 [0b10000101, 0xB6] = some (.staZp 0xB6) ∧
    reads1 [0b10010101, 0xBD] = some (.staZpX 0xBD) ∧
    reads1 [0b10001101, 0xC4, 0x6B] = some (.staAbs 0x6BC4) ∧
    reads1 [0b10011101, 0xCB, 0x76] = some (.staAbsX 0x76CB) ∧
    reads1 [0b10011001, 0xD2, 0x81] = some (.staAbsY 0x81D2) ∧
    reads1 [0b10000001, 0xD9] = some (.staIndX 0xD9) ∧
    reads1 [0b10010001, 0xE0] = some (.staIndY 0xE0) := by
  decide

theorem test_decode_stx :
    reads1 [0b10000110, 0xE7] = some (.stxZp 0xE7) ∧
    reads1 [0b10010110, 0xEE] = some (.stxZpY 0xEE) ∧
    reads1 [0b10001110, 0xF5, 0xB8] = some (.stxAbs 0xB8F5) := by
  decide

theorem test_decode_sty :
    reads1 [0b10000100, 0xFC] = some (.styZp 0xFC) ∧
    reads1 [0b10010100, 0x03] = some (.styZpX 0x03) ∧
    reads1 [0b10001100, 0x0A, 0xD9] = some (.styAbs 0xD90A) := by
  decide

theorem test_decode_tax :
    reads1 [0b10101010] = some .tax := by
  decide

theorem test_decode_tay :
    reads1 [0b10101000] = some .tay := by
  decide

theorem test_decode_txa :
    reads1 [0b10001010] = some .txa := by
  decide

theorem test_decode_tya :
    reads1 [0b10011000] = some .tya := by
  decide

theorem test_decode_txs :
    reads1 [0b10011010] = some .txs := by
  decide

theorem test_decode_tsx :
    reads1 [0b10111010] = some .tsx := by
  decide

theorem test_decode_adc :
    reads1 [0b01101001, 0x3B] = some (.adcImm 0x3B) ∧
    reads1 [0b01100101, 0x42] = some (.adcZp 0x42) ∧
    reads1 [0b01110101, 0x49] = some (.adcZpX 0x49) ∧
    reads1 [0b01101101, 0x50, 0x47] = some (.adcAbs 0x4750) ∧
    reads1 [0b01111101, 0x57, 0x52] = some (.adcAbsX 0x5257) ∧
    reads1 [0b01111001, 0x5E, 0x5D] = some (.adcAbsY 0x5D5E) ∧
    reads1 [0b01100001, 0x65] = some (.adcIndX 0x65) ∧
    reads1 [0b01110001, 0x6C] = some (.adcIndY 0x6C) := by
  decide

theorem test_decode_sbc :
    reads1 [0b11101001, 0x73] = some (.sbcImm 0x73) ∧
    reads1 [0b11100101, 0x7A] = some (.sbcZp 0x7A) ∧
    reads1 [0b11110101, 0x81] = some (.sbcZpX 0x81) ∧
    reads1 [0b11101101, 0x88, 0x9F] = some (.sbcAbs 0x9F88) ∧
    reads1 [0b11111101, 0x8F, 0xAA] = some (.sbcAbsX 0xAA8F) ∧
    reads1 [0b11111001, 0x96, 0xB5] = some (.sbcAbsY 0xB596) ∧
    reads1 [0b11100001, 0x9D] = some (.sbcIndX 0x9D) ∧
    reads1 [0b11110001, 0xA4] = some (.sbcIndY 0xA4) := by
  decide

theorem test_decode_cmp :
    reads1 [0b11001001, 0xAB] = some (.cmpImm 0xAB) ∧
    reads1 [0b11000101, 0xB2] = some (.cmpZp 0xB2) ∧
    reads1 [0b11010101, 0xB9] = some (.cmpZpX 0xB9) ∧
    reads1 [0b11001101, 0xC0, 0xF7] = some (.cmpAbs 0xF7C0) ∧
    reads1 [0b11011101, 0xC7, 0x02] = some (.cmpAbsX 0x02C7) ∧
    reads1 [0b11011001, 0xCE, 0x0D] = some (.cmpAbsY 0x0DCE) ∧
    reads1 [0b11000001, 0xD5] = some (.cmpIndX 0xD5) ∧
    reads1 [0b11010001, 0xDC] = some (.cmpIndY 0xDC) := by
  decide

theorem test_decode_cpx :
    reads1 [0b11100000, 0xE3] = some (.cpxImm 0xE3) ∧
    reads1 [0b11100100, 0xEA] = some (.cpxZp 0xEA) ∧
    reads1 [0b11101100, 0xF1, 0x44] = some (.cpxAbs 0x44F1) := by
  decide

theorem test_decode_cpy :
    reads1 [0b11000000, 0xF8] = some (.cpyImm 0xF8) ∧
    reads1 [0b11000100, 0xFF] = some (.cpyZp 0xFF) ∧
    reads1 [0b11001100, 0x06, 0x65] = some (.cpyAbs 0x6506) := by
  decide

theorem test_decode_inc :
    reads1 [0b11100110, 0x0D] = some (.incZp 0x0D) ∧
    reads1 [0b11110110, 0x14] = some (.incZpX 0x14) ∧
    reads1 [0b11101110, 0x1B, 0x86] = some (.incAbs 0x861B) ∧
    reads1 [0b11111110, 0x22, 0x91] = some (.incAbsX 0x9122) := by
  decide

theorem test_decode_inx :
    reads1 [0b11101000] = some .inx := by
  decide

theorem test_decode_iny :
    reads1 [0b11001000] = some .iny := by
  decide

theorem test_decode_dec :
    reads1 [0b11000110, 0x37] = some (.decZp 0x37) ∧
    reads1 [0b11010110, 0x3E] = some (.decZpX 0x3E) ∧
    reads1 [0b11001110, 0x45, 0xC8] = some (.decAbs 0xC845) ∧
    reads1 [0b11011110, 0x4C, 0xD3] = some (.decAbsX 0xD34C) := by
  decide

theorem test_decode_dex :
    reads1 [0b11001010] = some .dex := by
  decide

theorem test_decode_dey :
    reads1 [0b10001000] = some .dey := by
  decide

theorem test_decode_and :
    reads1 [0b00101001, 0x61] = some (.andImm 0x61) ∧
    reads1 [0b00100101, 0x68] = some (.andZp 0x68) ∧
    reads1 [0b00110101, 0x6F] = some (.andZpX 0x6F) ∧
    reads1 [0b00101101, 0x76, 0x15] = some (.andAbs 0x1576) ∧
    reads1 [0b00111101, 0x7D, 0x20] = some (.andAbsX 0x207D) ∧
    reads1 [0b00111001, 0x84, 0x2B] = some (.andAbsY 0x2B84) ∧
    reads1 [0b00100001, 0x8B] = some (.andIndX 0x8B) ∧
    reads1 [0b00110001, 0x92] = some (.andIndY 0x92) := by
  decide

theorem test_decode_ora :
    reads1 [0b00001001, 0x99] = some (.oraImm 0x99) ∧
    reads1 [0b00000101, 0xA0] = some (.oraZp 0xA0) ∧
    reads1 [0b00010101, 0xA7] = some (.oraZpX 0xA7) ∧
    reads1 [0b00001101, 0xAE, 0x6D] = some (.oraAbs 0x6DAE) ∧
    reads1 [0b00011101, 0xB5, 0x78] = some (.oraAbsX 0x78B5) ∧
    reads1 [0b00011001, 0xBC, 0x83] = some (.oraAbsY 0x83BC) ∧
    reads1 [0b00000001, 0xC3] = some (.oraIndX 0xC3) ∧
    reads1 [0b00010001, 0xCA] = some (.oraIndY 0xCA) := by
  decide

theorem test_decode_eor :
    reads1 [0b01001001, 0xD1] = some (.eorImm 0xD1) ∧
    reads1 [0b01000101, 0xD8] = some (.eorZp 0xD8) ∧
    reads1 [0b01010101, 0xDF] = some (.eorZpX 0xDF) ∧
    reads1 [0b01001101, 0xE6, 0xC5] = some (.eorAbs 0xC5E6) ∧
    reads1 [0b01011101, 0xED, 0xD0] = some (.eorAbsX 0xD0ED) ∧
    reads1 [0b01011001, 0xF4, 0xDB] = some (.eorAbsY 0xDBF4) ∧
    reads1 [0b01000001, 0xFB] = some (.eorIndX 0xFB) ∧
    reads1 [0b01010001, 0x02] = some (.eorIndY 0x02) := by
  decide

theorem test_decode_bit :
    reads1 [0b00100100, 0x09] = some (.bitZp 0x09) ∧
    reads1 [0b00101100, 0x10, 0x07] = some (.bitAbs 0x0710) := by
  decide

theorem test_decode_asl :
    reads1 [0b00001010] = some .aslA ∧
    reads1 [0b00000110, 0x1E] = some (.aslZp 0x1E) ∧
    reads1 [0b00010110, 0x25] = some (.aslZpX 0x25) ∧
    reads1 [0b00001110, 0x2C, 0x33] = some (.aslAbs 0x332C) ∧
    reads1 [0b00011110, 0x33, 0x3E] = some (.aslAbsX 0x3E33) := by
  decide

theorem test_decode_lsr :
    reads1 [0b01001010] = some .lsrA ∧
    reads1 [0b01000110, 0x41] = some (.lsrZp 0x41) ∧
    reads1 [0b01010110, 0x48] = some (.lsrZpX 0x48) ∧
    reads1 [0b01001110, 0x4F, 0x6A] = some (.lsrAbs 0x6A4F) ∧
    reads1 [0b01011110, 0x56, 0x75] = some (.lsrAbsX 0x7556) := by
  decide

theorem test_decode_rol :
    reads1 [0b00101010] = some .rolA ∧
    reads1 [0b00100110, 0x64] = some (.rolZp 0x64) ∧
    reads1 [0b00110110, 0x6B] = some (.rolZpX 0x6B) ∧
    reads1 [0b00101110, 0x72, 0xA1] = some (.rolAbs 0xA172) ∧
    reads1 [0b00111110, 0x79, 0xAC] = some (.rolAbsX 0xAC79) := by
  decide

theorem test_decode_ror :
    reads1 [0b01101010] = some .rorA ∧
    reads1 [0b01100110, 0x87] = some (.rorZp 0x87) ∧
    reads1 [0b01110110, 0x8E] = some (.rorZpX 0x8E) ∧
    reads1 [0b01101110, 0x95, 0xD8] = some (.rorAbs 0xD895) ∧
    reads1 [0b01111110, 0x9C, 0xE3] = some (.rorAbsX 0xE39C) := by
  decide

theorem test_decode_pha :
    reads1 [0b01001000] = some .pha := by
  decide

theorem test_decode_php :
    reads1 [0b00001000] = some .php := by
  decide

theorem test_decode_pla :
    reads1 [0b01101000] = some .pla := by
  decide

theorem test_decode_plp :
    reads1 [0b00101000] = some .plp := by
  decide

theorem test_decode_clc :
    reads1 [0b00011000] = some .clc := by
  decide

theorem test_decode_sec :
    reads1 [0b00111000] = some .sec := by
  decide

theorem test_decode_cli :
    reads1 [0b01011000] = some .cli := by
  decide

theorem test_decode_sei :
    reads1 [0b01111000] = some .sei := by
  decide

theorem test_decode_clv :
    reads1 [0b10111000] = some .clv := by
  decide

theorem test_decode_cld :
    reads1 [0b11011000] = some .cld := by
  decide

theorem test_decode_sed :
    reads1 [0b11111000] = some .sed := by
  decide

theorem test_decode_nop :
    reads1 [0b11101010] = some .nop := by
  decide

theorem test_decode_jmp :
    reads1 [0b01001100, 0xF7, 0x72] = some (.jmpAbs 0x72F7) ∧
    reads1 [0b01101100, 0xFE, 0x7D] = some (.jmpInd 0x7DFE) := by
  decide

theorem test_decode_jsr :
    reads1 [0b00100000, 0x05, 0x88] = some (.jsrAbs 0x8805) := by
  decide

theorem test_decode_rts :
    reads1 [0b01100000] = some .rts := by
  decide

theorem test_decode_brk :
    reads1 [0b00000000] = some .brk := by
  decide

theorem test_decode_rti :
    reads1 [0b01000000] = some .rti := by
  decide

theorem test_decode_bcc :
    reads1 [0b10010000, 0x21] = some (.bcc 0x21) := by
  decide

theorem test_decode_bcs :
    reads1 [0b10110000, 0x28] = some (.bcs 0x28) := by
  decide

theorem test_decode_beq :
    reads1 [0b11110000, 0x2F] = some (.beq 0x2F) := by
  decide

theorem test_decode_bne :
    reads1 [0b11010000, 0x36] = some (.bne 0x36) := by
  decide

theorem test_decode_bmi :
    reads1 [0b00110000, 0x3D] = some (.bmi 0x3D) := by
  decide

theorem test_decode_bpl :
    reads1 [0b00010000, 0x44] = some (.bpl 0x44) := by
  decide

theorem test_decode_bvc :
    reads1 [0b01010000, 0x4B] = some (.bvc 0x4B) := by
  decide

theorem test_decode_bvs :
    reads1 [0b01110000, 0x52] = some (.bvs 0x52) := by
  decide

/-- The first and the last value of R91's list, and one whose neighbours are legal; the byte after it is not read. -/
theorem test_decode_illegal :
    reads1 [0b00000010] = some (.ill 0x02) ∧ reads1 [0b11111111] = some (.ill 0xFF) ∧
    reads1 [0b10001001] = some (.ill 0x89) ∧ reads1 [0b10001001, 0x00] = none := by
  decide

theorem test_decode_rejects_short : reads1 [] = none ∧ reads1 [0xA9] = none ∧ reads1 [0x4C, 0x00] = none := by decide

/-! ### Single steps, from spec/95_test_vectors.md -/

/-- The start state of the vectors: P as the byte 0x24, PC 0x8000, memory 0x00, parameters as the spec takes them. -/
def start : State :=
  { State.reset with
    pc := 0x8000
    p := { c := false, z := false, i := true, d := false, b := false, v := false, n := false }
    bus := [] }

/-- P with the bits of a byte, B among them. -/
def status (v : Byte) : Status := { Status.ofPulled v with b := bit v 4 }

/-- Some bytes at rising addresses, added to memory. -/
def poke (addr : Word) (bytes : List Byte) (s : State) : State := { s with mem := placeBytes addr bytes s.mem }

/-- What a vector's row shows after one step: A, X, Y, SP, PC, P, the cycles and the writes in order. -/
def shown (s : State) : Option (List Byte × Word × Nat × List (Word × Byte)) :=
  match step s with
  | .next t =>
    some ([t.a, t.x, t.y, t.sp, t.p.toByte], t.pc, t.elapsed,
      t.bus.filterMap (fun e => match e with | .write a v => some (a, v) | .read _ _ => none))
  | _ => none

/-- `LDA #$80`. -/
theorem test_v1_lda :
    shown (start
      |> poke 0x8000 [0xA9, 0x80]) =
      some ([0x80, 0x00, 0x00, 0xFD, 0xA4], 0x8002, 2, []) := by
  decide

/-- `LDA $10`. -/
theorem test_v2_lda :
    shown (start
      |> poke 0x8000 [0xA5, 0x10]
      |> poke 0x0010 [0x37]) =
      some ([0x37, 0x00, 0x00, 0xFD, 0x24], 0x8002, 3, []) := by
  decide

/-- `LDX $FF,Y`. -/
theorem test_v4_ldx :
    shown ({ start with y := 0x01 }
      |> poke 0x8000 [0xB6, 0xFF]
      |> poke 0x0000 [0x99]
      |> poke 0x0100 [0x11]) =
      some ([0x00, 0x99, 0x01, 0xFD, 0xA4], 0x8002, 4, []) := by
  decide

/-- `STA $12F0,X`. -/
theorem test_v9_sta :
    shown ({ start with a := 0x5A, x := 0x10 }
      |> poke 0x8000 [0x9D, 0xF0, 0x12]) =
      some ([0x5A, 0x10, 0x00, 0xFD, 0x24], 0x8003, 5, [(0x1300, 0x5A)]) := by
  decide

/-- `STA ($86),Y`. -/
theorem test_v15_sta :
    shown ({ start with a := 0x42, y := 0xE0 }
      |> poke 0x8000 [0x91, 0x86]
      |> poke 0x0086 [0x28, 0x40]) =
      some ([0x42, 0x00, 0xE0, 0xFD, 0x24], 0x8002, 6, [(0x4108, 0x42)]) := by
  decide

/-- `JMP ($1234)`. -/
theorem test_v16_jmp :
    shown (start
      |> poke 0x8000 [0x6C, 0x34, 0x12]
      |> poke 0x1234 [0x78, 0x56]) =
      some ([0x00, 0x00, 0x00, 0xFD, 0x24], 0x5678, 5, []) := by
  decide

/-- `JMP ($12FF)`. -/
theorem test_v17_jmp :
    shown (start
      |> poke 0x8000 [0x6C, 0xFF, 0x12]
      |> poke 0x12FF [0x34]
      |> poke 0x1200 [0x56]
      |> poke 0x1300 [0x99]) =
      some ([0x00, 0x00, 0x00, 0xFD, 0x24], 0x5634, 5, []) := by
  decide

/-- `LDX #$FF`. -/
theorem test_v21_ldx :
    shown (start
      |> poke 0x8000 [0xA2, 0xFF]) =
      some ([0x00, 0xFF, 0x00, 0xFD, 0xA4], 0x8002, 2, []) := by
  decide

/-- `LDY $10,X`. -/
theorem test_v22_ldy :
    shown ({ start with x := 0x05 }
      |> poke 0x8000 [0xB4, 0x10]
      |> poke 0x0015 [0x7F]) =
      some ([0x00, 0x05, 0x7F, 0xFD, 0x24], 0x8002, 4, []) := by
  decide

/-- `LDY $10FF,X`. -/
theorem test_v24_ldy :
    shown ({ start with x := 0x01 }
      |> poke 0x8000 [0xBC, 0xFF, 0x10]
      |> poke 0x1100 [0x01]) =
      some ([0x00, 0x01, 0x01, 0xFD, 0x24], 0x8003, 5, []) := by
  decide

/-- `STX $10,Y`. -/
theorem test_v27_stx :
    shown ({ start with x := 0x07, y := 0xF8 }
      |> poke 0x8000 [0x96, 0x10]) =
      some ([0x00, 0x07, 0xF8, 0xFD, 0x24], 0x8002, 4, [(0x0008, 0x07)]) := by
  decide

/-- `STY $0300`. -/
theorem test_v28_sty :
    shown ({ start with y := 0x99 }
      |> poke 0x8000 [0x8C, 0x00, 0x03]) =
      some ([0x00, 0x00, 0x99, 0xFD, 0x24], 0x8003, 4, [(0x0300, 0x99)]) := by
  decide

/-- `TAX`. -/
theorem test_v30_tax :
    shown ({ start with a := 0x80 }
      |> poke 0x8000 [0xAA]) =
      some ([0x80, 0x80, 0x00, 0xFD, 0xA4], 0x8001, 2, []) := by
  decide

/-- `TAY`. -/
theorem test_v31_tay :
    shown ({ start with a := 0x00, y := 0x55 }
      |> poke 0x8000 [0xA8]) =
      some ([0x00, 0x00, 0x00, 0xFD, 0x26], 0x8001, 2, []) := by
  decide

/-- `TXA`. -/
theorem test_v32_txa :
    shown ({ start with x := 0x01, a := 0xFF, p := status 0xA4 }
      |> poke 0x8000 [0x8A]) =
      some ([0x01, 0x01, 0x00, 0xFD, 0x24], 0x8001, 2, []) := by
  decide

/-- `TYA`. -/
theorem test_v33_tya :
    shown ({ start with y := 0xFF }
      |> poke 0x8000 [0x98]) =
      some ([0xFF, 0x00, 0xFF, 0xFD, 0xA4], 0x8001, 2, []) := by
  decide

/-- `TXS`. -/
theorem test_v34_txs :
    shown ({ start with x := 0x00, p := status 0x24 }
      |> poke 0x8000 [0x9A]) =
      some ([0x00, 0x00, 0x00, 0x00, 0x24], 0x8001, 2, []) := by
  decide

/-- `TSX`. -/
theorem test_v35_tsx :
    shown (start
      |> poke 0x8000 [0xBA]) =
      some ([0x00, 0xFD, 0x00, 0xFD, 0xA4], 0x8001, 2, []) := by
  decide

/-- `ADC #$01`. -/
theorem test_v36_adc :
    shown ({ start with a := 0x05, p := status 0x24 }
      |> poke 0x8000 [0x69, 0x01]) =
      some ([0x06, 0x00, 0x00, 0xFD, 0x24], 0x8002, 2, []) := by
  decide

/-- `ADC #$01`. -/
theorem test_v37_adc :
    shown ({ start with a := 0xFF, p := status 0x24 }
      |> poke 0x8000 [0x69, 0x01]) =
      some ([0x00, 0x00, 0x00, 0xFD, 0x27], 0x8002, 2, []) := by
  decide

/-- `ADC #$01`. -/
theorem test_v38_adc :
    shown ({ start with a := 0x7F, p := status 0x24 }
      |> poke 0x8000 [0x69, 0x01]) =
      some ([0x80, 0x00, 0x00, 0xFD, 0xE4], 0x8002, 2, []) := by
  decide

/-- `ADC #$80`. -/
theorem test_v39_adc :
    shown ({ start with a := 0x80, p := status 0x24 }
      |> poke 0x8000 [0x69, 0x80]) =
      some ([0x00, 0x00, 0x00, 0xFD, 0x67], 0x8002, 2, []) := by
  decide

/-- `SBC #$08`. -/
theorem test_v49_sbc :
    shown ({ start with a := 0x10, p := status 0x25 }
      |> poke 0x8000 [0xE9, 0x08]) =
      some ([0x08, 0x00, 0x00, 0xFD, 0x25], 0x8002, 2, []) := by
  decide

/-- `SBC #$01`. -/
theorem test_v50_sbc :
    shown ({ start with a := 0x00, p := status 0x25 }
      |> poke 0x8000 [0xE9, 0x01]) =
      some ([0xFF, 0x00, 0x00, 0xFD, 0xA4], 0x8002, 2, []) := by
  decide

/-- `SBC #$01`. -/
theorem test_v51_sbc :
    shown ({ start with a := 0x80, p := status 0x25 }
      |> poke 0x8000 [0xE9, 0x01]) =
      some ([0x7F, 0x00, 0x00, 0xFD, 0x65], 0x8002, 2, []) := by
  decide

/-- `SBC #$50`. -/
theorem test_v52_sbc :
    shown ({ start with a := 0x50, p := status 0x25 }
      |> poke 0x8000 [0xE9, 0x50]) =
      some ([0x00, 0x00, 0x00, 0xFD, 0x27], 0x8002, 2, []) := by
  decide

/-- `CMP #$30`. -/
theorem test_v58_cmp :
    shown ({ start with a := 0x40, p := status 0x64 }
      |> poke 0x8000 [0xC9, 0x30]) =
      some ([0x40, 0x00, 0x00, 0xFD, 0x65], 0x8002, 2, []) := by
  decide

/-- `CMP #$30`. -/
theorem test_v59_cmp :
    shown ({ start with a := 0x30, p := status 0x64 }
      |> poke 0x8000 [0xC9, 0x30]) =
      some ([0x30, 0x00, 0x00, 0xFD, 0x67], 0x8002, 2, []) := by
  decide

/-- `CPX #$10`. -/
theorem test_v64_cpx :
    shown ({ start with x := 0x10 }
      |> poke 0x8000 [0xE0, 0x10]) =
      some ([0x00, 0x10, 0x00, 0xFD, 0x27], 0x8002, 2, []) := by
  decide

/-- `CPX $10`. -/
theorem test_v65_cpx :
    shown ({ start with x := 0x00 }
      |> poke 0x8000 [0xE4, 0x10]
      |> poke 0x0010 [0xFF]) =
      some ([0x00, 0x00, 0x00, 0xFD, 0x24], 0x8002, 3, []) := by
  decide

/-- `CPY #$06`. -/
theorem test_v66_cpy :
    shown ({ start with y := 0x05 }
      |> poke 0x8000 [0xC0, 0x06]) =
      some ([0x00, 0x00, 0x05, 0xFD, 0xA4], 0x8002, 2, []) := by
  decide

/-- `CPY $0200`. -/
theorem test_v67_cpy :
    shown ({ start with y := 0xFF }
      |> poke 0x8000 [0xCC, 0x00, 0x02]
      |> poke 0x0200 [0x7F]) =
      some ([0x00, 0x00, 0xFF, 0xFD, 0xA5], 0x8003, 4, []) := by
  decide

/-- `INC $10`. -/
theorem test_v68_inc :
    shown ({ start with p := status 0x25 }
      |> poke 0x8000 [0xE6, 0x10]
      |> poke 0x0010 [0xFF]) =
      some ([0x00, 0x00, 0x00, 0xFD, 0x27], 0x8002, 5, [(0x0010, 0x00)]) := by
  decide

/-- `INC $0200,X`. -/
theorem test_v69_inc :
    shown ({ start with x := 0xFF }
      |> poke 0x8000 [0xFE, 0x00, 0x02]
      |> poke 0x02FF [0x7F]) =
      some ([0x00, 0xFF, 0x00, 0xFD, 0xA4], 0x8003, 7, [(0x02FF, 0x80)]) := by
  decide

/-- `INX`. -/
theorem test_v70_inx :
    shown ({ start with x := 0x7F }
      |> poke 0x8000 [0xE8]) =
      some ([0x00, 0x80, 0x00, 0xFD, 0xA4], 0x8001, 2, []) := by
  decide

/-- `INX`. -/
theorem test_v71_inx :
    shown ({ start with x := 0xFF }
      |> poke 0x8000 [0xE8]) =
      some ([0x00, 0x00, 0x00, 0xFD, 0x26], 0x8001, 2, []) := by
  decide

/-- `INY`. -/
theorem test_v72_iny :
    shown ({ start with y := 0xFF }
      |> poke 0x8000 [0xC8]) =
      some ([0x00, 0x00, 0x00, 0xFD, 0x26], 0x8001, 2, []) := by
  decide

/-- `DEC $0200`. -/
theorem test_v73_dec :
    shown (start
      |> poke 0x8000 [0xCE, 0x00, 0x02]
      |> poke 0x0200 [0x01]) =
      some ([0x00, 0x00, 0x00, 0xFD, 0x26], 0x8003, 6, [(0x0200, 0x00)]) := by
  decide

/-- `DEC $10,X`. -/
theorem test_v74_dec :
    shown ({ start with x := 0x01 }
      |> poke 0x8000 [0xD6, 0x10]
      |> poke 0x0011 [0x00]) =
      some ([0x00, 0x01, 0x00, 0xFD, 0xA4], 0x8002, 6, [(0x0011, 0xFF)]) := by
  decide

/-- `DEX`. -/
theorem test_v75_dex :
    shown ({ start with x := 0x01 }
      |> poke 0x8000 [0xCA]) =
      some ([0x00, 0x00, 0x00, 0xFD, 0x26], 0x8001, 2, []) := by
  decide

/-- `DEX`. -/
theorem test_v76_dex :
    shown ({ start with x := 0x00 }
      |> poke 0x8000 [0xCA]) =
      some ([0x00, 0xFF, 0x00, 0xFD, 0xA4], 0x8001, 2, []) := by
  decide

/-- `DEY`. -/
theorem test_v77_dey :
    shown ({ start with y := 0x00 }
      |> poke 0x8000 [0x88]) =
      some ([0x00, 0x00, 0xFF, 0xFD, 0xA4], 0x8001, 2, []) := by
  decide

/-- `AND #$3C`. -/
theorem test_v78_and :
    shown ({ start with a := 0xF0 }
      |> poke 0x8000 [0x29, 0x3C]) =
      some ([0x30, 0x00, 0x00, 0xFD, 0x24], 0x8002, 2, []) := by
  decide

/-- `AND #$00`. -/
theorem test_v79_and :
    shown ({ start with a := 0xFF, p := status 0xA5 }
      |> poke 0x8000 [0x29, 0x00]) =
      some ([0x00, 0x00, 0x00, 0xFD, 0x27], 0x8002, 2, []) := by
  decide

/-- `ORA #$80`. -/
theorem test_v81_ora :
    shown ({ start with a := 0x0F }
      |> poke 0x8000 [0x09, 0x80]) =
      some ([0x8F, 0x00, 0x00, 0xFD, 0xA4], 0x8002, 2, []) := by
  decide

/-- `ORA #$00`. -/
theorem test_v82_ora :
    shown ({ start with a := 0x00 }
      |> poke 0x8000 [0x09, 0x00]) =
      some ([0x00, 0x00, 0x00, 0xFD, 0x26], 0x8002, 2, []) := by
  decide

/-- `EOR #$FF`. -/
theorem test_v84_eor :
    shown ({ start with a := 0xAA }
      |> poke 0x8000 [0x49, 0xFF]) =
      some ([0x55, 0x00, 0x00, 0xFD, 0x24], 0x8002, 2, []) := by
  decide

/-- `EOR #$AA`. -/
theorem test_v85_eor :
    shown ({ start with a := 0xAA }
      |> poke 0x8000 [0x49, 0xAA]) =
      some ([0x00, 0x00, 0x00, 0xFD, 0x26], 0x8002, 2, []) := by
  decide

/-- `BIT $10`. -/
theorem test_v87_bit :
    shown ({ start with a := 0x01 }
      |> poke 0x8000 [0x24, 0x10]
      |> poke 0x0010 [0x41]) =
      some ([0x01, 0x00, 0x00, 0xFD, 0x64], 0x8002, 3, []) := by
  decide

/-- `BIT $10`. -/
theorem test_v88_bit :
    shown ({ start with a := 0x3F }
      |> poke 0x8000 [0x24, 0x10]
      |> poke 0x0010 [0xC0]) =
      some ([0x3F, 0x00, 0x00, 0xFD, 0xE6], 0x8002, 3, []) := by
  decide

/-- `ASL A`. -/
theorem test_v90_asl :
    shown ({ start with a := 0x81 }
      |> poke 0x8000 [0x0A]) =
      some ([0x02, 0x00, 0x00, 0xFD, 0x25], 0x8001, 2, []) := by
  decide

/-- `ASL A`. -/
theorem test_v91_asl :
    shown ({ start with a := 0x80 }
      |> poke 0x8000 [0x0A]) =
      some ([0x00, 0x00, 0x00, 0xFD, 0x27], 0x8001, 2, []) := by
  decide

/-- `LSR A`. -/
theorem test_v94_lsr :
    shown ({ start with a := 0x01 }
      |> poke 0x8000 [0x4A]) =
      some ([0x00, 0x00, 0x00, 0xFD, 0x27], 0x8001, 2, []) := by
  decide

/-- `LSR A`. -/
theorem test_v95_lsr :
    shown ({ start with a := 0xFF, p := status 0xA4 }
      |> poke 0x8000 [0x4A]) =
      some ([0x7F, 0x00, 0x00, 0xFD, 0x25], 0x8001, 2, []) := by
  decide

/-- `ROL A`. -/
theorem test_v97_rol :
    shown ({ start with a := 0x40, p := status 0x25 }
      |> poke 0x8000 [0x2A]) =
      some ([0x81, 0x00, 0x00, 0xFD, 0xA4], 0x8001, 2, []) := by
  decide

/-- `ROL A`. -/
theorem test_v98_rol :
    shown ({ start with a := 0x80, p := status 0x24 }
      |> poke 0x8000 [0x2A]) =
      some ([0x00, 0x00, 0x00, 0xFD, 0x27], 0x8001, 2, []) := by
  decide

/-- `ROR A`. -/
theorem test_v100_ror :
    shown ({ start with a := 0x01, p := status 0x24 }
      |> poke 0x8000 [0x6A]) =
      some ([0x00, 0x00, 0x00, 0xFD, 0x27], 0x8001, 2, []) := by
  decide

/-- `ROR A`. -/
theorem test_v101_ror :
    shown ({ start with a := 0x00, p := status 0x25 }
      |> poke 0x8000 [0x6A]) =
      some ([0x80, 0x00, 0x00, 0xFD, 0xA4], 0x8001, 2, []) := by
  decide

/-- `PHA`. -/
theorem test_v103_pha :
    shown ({ start with a := 0x42 }
      |> poke 0x8000 [0x48]) =
      some ([0x42, 0x00, 0x00, 0xFC, 0x24], 0x8001, 3, [(0x01FC, 0x42)]) := by
  decide

/-- `PHA`. -/
theorem test_v104_pha :
    shown ({ start with a := 0x42, sp := 0x00 }
      |> poke 0x8000 [0x48]) =
      some ([0x42, 0x00, 0x00, 0xFF, 0x24], 0x8001, 3, [(0x01FF, 0x42)]) := by
  decide

/-- `PHP`. -/
theorem test_v105_php :
    shown ({ start with p := status 0x24 }
      |> poke 0x8000 [0x08]) =
      some ([0x00, 0x00, 0x00, 0xFC, 0x24], 0x8001, 3, [(0x01FC, 0x34)]) := by
  decide

/-- `PHP`. -/
theorem test_v106_php :
    shown ({ start with p := status 0xE3 }
      |> poke 0x8000 [0x08]) =
      some ([0x00, 0x00, 0x00, 0xFC, 0xE3], 0x8001, 3, [(0x01FC, 0xF3)]) := by
  decide

/-- `PLA`. -/
theorem test_v107_pla :
    shown ({ start with sp := 0xFC }
      |> poke 0x8000 [0x68]
      |> poke 0x01FC [0x00]) =
      some ([0x00, 0x00, 0x00, 0xFD, 0x26], 0x8001, 4, []) := by
  decide

/-- `PLA`. -/
theorem test_v108_pla :
    shown ({ start with sp := 0xFF }
      |> poke 0x8000 [0x68]
      |> poke 0x01FF [0x80]) =
      some ([0x80, 0x00, 0x00, 0x00, 0xA4], 0x8001, 4, []) := by
  decide

/-- `PLP`. -/
theorem test_v109_plp :
    shown ({ start with sp := 0xFC }
      |> poke 0x8000 [0x28]
      |> poke 0x01FC [0xC3]) =
      some ([0x00, 0x00, 0x00, 0xFD, 0xE3], 0x8001, 4, []) := by
  decide

/-- `PLP`. -/
theorem test_v110_plp :
    shown ({ start with sp := 0xFC, p := status 0x34 }
      |> poke 0x8000 [0x28]
      |> poke 0x01FC [0x00]) =
      some ([0x00, 0x00, 0x00, 0xFD, 0x20], 0x8001, 4, []) := by
  decide

/-- `CLC`. -/
theorem test_v114_clc :
    shown ({ start with p := status 0x35 }
      |> poke 0x8000 [0x18]) =
      some ([0x00, 0x00, 0x00, 0xFD, 0x34], 0x8001, 2, []) := by
  decide

/-- `SEC`. -/
theorem test_v115_sec :
    shown ({ start with p := status 0x34 }
      |> poke 0x8000 [0x38]) =
      some ([0x00, 0x00, 0x00, 0xFD, 0x35], 0x8001, 2, []) := by
  decide

/-- `CLI`. -/
theorem test_v116_cli :
    shown ({ start with p := status 0x34 }
      |> poke 0x8000 [0x58]) =
      some ([0x00, 0x00, 0x00, 0xFD, 0x30], 0x8001, 2, []) := by
  decide

/-- `SEI`. -/
theorem test_v117_sei :
    shown ({ start with p := status 0x20 }
      |> poke 0x8000 [0x78]) =
      some ([0x00, 0x00, 0x00, 0xFD, 0x24], 0x8001, 2, []) := by
  decide

/-- `CLV`. -/
theorem test_v118_clv :
    shown ({ start with p := status 0x64 }
      |> poke 0x8000 [0xB8]) =
      some ([0x00, 0x00, 0x00, 0xFD, 0x24], 0x8001, 2, []) := by
  decide

/-- `CLD`. -/
theorem test_v119_cld :
    shown ({ start with p := status 0x2C }
      |> poke 0x8000 [0xD8]) =
      some ([0x00, 0x00, 0x00, 0xFD, 0x24], 0x8001, 2, []) := by
  decide

/-- `SED`. -/
theorem test_v120_sed :
    shown ({ start with p := status 0x24 }
      |> poke 0x8000 [0xF8]) =
      some ([0x00, 0x00, 0x00, 0xFD, 0x2C], 0x8001, 2, []) := by
  decide

/-- `NOP`. -/
theorem test_v121_nop :
    shown (start
      |> poke 0x8000 [0xEA]) =
      some ([0x00, 0x00, 0x00, 0xFD, 0x24], 0x8001, 2, []) := by
  decide

/-- `JSR $1234`. -/
theorem test_v122_jsr :
    shown (start
      |> poke 0x8000 [0x20, 0x34, 0x12]) =
      some ([0x00, 0x00, 0x00, 0xFB, 0x24], 0x1234, 6, [(0x01FC, 0x80), (0x01FB, 0x02)]) := by
  decide

/-- `JSR $0000 at 0xFFFD`. -/
theorem test_v124_jsr :
    shown ({ start with pc := 0xFFFD }
      |> poke 0xFFFD [0x20, 0x00, 0x00]) =
      some ([0x00, 0x00, 0x00, 0xFB, 0x24], 0x0000, 6, [(0x01FC, 0xFF), (0x01FB, 0xFF)]) := by
  decide

/-- `RTS`. -/
theorem test_v126_rts :
    shown ({ start with sp := 0xFB }
      |> poke 0x8000 [0x60]
      |> poke 0x01FB [0x02, 0x80]) =
      some ([0x00, 0x00, 0x00, 0xFD, 0x24], 0x8003, 6, []) := by
  decide

/-- `RTS`. -/
theorem test_v127_rts :
    shown ({ start with sp := 0xFB }
      |> poke 0x8000 [0x60]
      |> poke 0x01FB [0xFF, 0xFF]) =
      some ([0x00, 0x00, 0x00, 0xFD, 0x24], 0x0000, 6, []) := by
  decide

/-- `BRK`. -/
theorem test_v128_brk :
    shown ({ start with p := status 0x24 }
      |> poke 0x8000 [0x00]
      |> poke 0xFFFE [0x00, 0x90]) =
      some ([0x00, 0x00, 0x00, 0xFA, 0x24], 0x9000, 7, [(0x01FC, 0x80), (0x01FB, 0x02), (0x01FA, 0x34)]) := by
  decide

/-- `BRK`. -/
theorem test_v129_brk :
    shown ({ start with p := status 0xE3 }
      |> poke 0x8000 [0x00]
      |> poke 0xFFFE [0x00, 0x90]) =
      some ([0x00, 0x00, 0x00, 0xFA, 0xE7], 0x9000, 7, [(0x01FC, 0x80), (0x01FB, 0x02), (0x01FA, 0xF3)]) := by
  decide

/-- `RTI`. -/
theorem test_v131_rti :
    shown ({ start with sp := 0xFA }
      |> poke 0x8000 [0x40]
      |> poke 0x01FA [0x34, 0x02, 0x80]) =
      some ([0x00, 0x00, 0x00, 0xFD, 0x24], 0x8002, 6, []) := by
  decide

/-- `RTI`. -/
theorem test_v132_rti :
    shown ({ start with sp := 0xFA, p := status 0x24 }
      |> poke 0x8000 [0x40]
      |> poke 0x01FA [0xDB, 0x34, 0x12]) =
      some ([0x00, 0x00, 0x00, 0xFD, 0xEB], 0x1234, 6, []) := by
  decide

/-- `BCC +4`. -/
theorem test_v134_bcc :
    shown ({ start with p := status 0x24 }
      |> poke 0x8000 [0x90, 0x04]) =
      some ([0x00, 0x00, 0x00, 0xFD, 0x24], 0x8006, 3, []) := by
  decide

/-- `BCC +4`. -/
theorem test_v135_bcc :
    shown ({ start with p := status 0x25 }
      |> poke 0x8000 [0x90, 0x04]) =
      some ([0x00, 0x00, 0x00, 0xFD, 0x25], 0x8002, 2, []) := by
  decide

/-- `BCS +4`. -/
theorem test_v136_bcs :
    shown ({ start with p := status 0x25 }
      |> poke 0x8000 [0xB0, 0x04]) =
      some ([0x00, 0x00, 0x00, 0xFD, 0x25], 0x8006, 3, []) := by
  decide

/-- `BCS +4`. -/
theorem test_v137_bcs :
    shown ({ start with p := status 0x24 }
      |> poke 0x8000 [0xB0, 0x04]) =
      some ([0x00, 0x00, 0x00, 0xFD, 0x24], 0x8002, 2, []) := by
  decide

/-- `BEQ +4`. -/
theorem test_v138_beq :
    shown ({ start with p := status 0x26 }
      |> poke 0x8000 [0xF0, 0x04]) =
      some ([0x00, 0x00, 0x00, 0xFD, 0x26], 0x8006, 3, []) := by
  decide

/-- `BEQ +4`. -/
theorem test_v139_beq :
    shown ({ start with p := status 0x24 }
      |> poke 0x8000 [0xF0, 0x04]) =
      some ([0x00, 0x00, 0x00, 0xFD, 0x24], 0x8002, 2, []) := by
  decide

/-- `BNE +4`. -/
theorem test_v140_bne :
    shown ({ start with p := status 0x24 }
      |> poke 0x8000 [0xD0, 0x04]) =
      some ([0x00, 0x00, 0x00, 0xFD, 0x24], 0x8006, 3, []) := by
  decide

/-- `BNE +4`. -/
theorem test_v141_bne :
    shown ({ start with p := status 0x26 }
      |> poke 0x8000 [0xD0, 0x04]) =
      some ([0x00, 0x00, 0x00, 0xFD, 0x26], 0x8002, 2, []) := by
  decide

/-- `BMI +4`. -/
theorem test_v142_bmi :
    shown ({ start with p := status 0xA4 }
      |> poke 0x8000 [0x30, 0x04]) =
      some ([0x00, 0x00, 0x00, 0xFD, 0xA4], 0x8006, 3, []) := by
  decide

/-- `BMI +4`. -/
theorem test_v143_bmi :
    shown ({ start with p := status 0x24 }
      |> poke 0x8000 [0x30, 0x04]) =
      some ([0x00, 0x00, 0x00, 0xFD, 0x24], 0x8002, 2, []) := by
  decide

/-- `BPL +4`. -/
theorem test_v144_bpl :
    shown ({ start with p := status 0x24 }
      |> poke 0x8000 [0x10, 0x04]) =
      some ([0x00, 0x00, 0x00, 0xFD, 0x24], 0x8006, 3, []) := by
  decide

/-- `BPL +4`. -/
theorem test_v145_bpl :
    shown ({ start with p := status 0xA4 }
      |> poke 0x8000 [0x10, 0x04]) =
      some ([0x00, 0x00, 0x00, 0xFD, 0xA4], 0x8002, 2, []) := by
  decide

/-- `BVC +4`. -/
theorem test_v146_bvc :
    shown ({ start with p := status 0x24 }
      |> poke 0x8000 [0x50, 0x04]) =
      some ([0x00, 0x00, 0x00, 0xFD, 0x24], 0x8006, 3, []) := by
  decide

/-- `BVC +4`. -/
theorem test_v147_bvc :
    shown ({ start with p := status 0x64 }
      |> poke 0x8000 [0x50, 0x04]) =
      some ([0x00, 0x00, 0x00, 0xFD, 0x64], 0x8002, 2, []) := by
  decide

/-- `BVS +4`. -/
theorem test_v148_bvs :
    shown ({ start with p := status 0x64 }
      |> poke 0x8000 [0x70, 0x04]) =
      some ([0x00, 0x00, 0x00, 0xFD, 0x64], 0x8006, 3, []) := by
  decide

/-- `BVS +4`. -/
theorem test_v149_bvs :
    shown ({ start with p := status 0x24 }
      |> poke 0x8000 [0x70, 0x04]) =
      some ([0x00, 0x00, 0x00, 0xFD, 0x24], 0x8002, 2, []) := by
  decide

/-- `(illegal 0x02)`. -/
theorem test_v158_ill :
    shown (start
      |> poke 0x8000 [0x02, 0xA9]) =
      some ([0x00, 0x00, 0x00, 0xFD, 0x24], 0x8002, 2, []) := by
  decide

/-- `(illegal 0x80)`. -/
theorem test_v160_ill :
    shown ({ start with cfg := { Config.taken with illegalOperandBytes := 2, illegalCycles := 4 } }
      |> poke 0x8000 [0x80, 0x12, 0x34]) =
      some ([0x00, 0x00, 0x00, 0xFD, 0x24], 0x8003, 4, []) := by
  decide

/-- `PHA`. -/
theorem test_v161_pha :
    shown ({ start with a := 0x42, cfg := { Config.taken with stackPushPredecrement := false } }
      |> poke 0x8000 [0x48]) =
      some ([0x42, 0x00, 0x00, 0xFC, 0x24], 0x8001, 3, [(0x01FD, 0x42)]) := by
  decide

/-- `PLA`. -/
theorem test_v162_pla :
    shown ({ start with sp := 0xFC, cfg := { Config.taken with stackPushPredecrement := false } }
      |> poke 0x8000 [0x68]
      |> poke 0x01FD [0x77]) =
      some ([0x77, 0x00, 0x00, 0xFD, 0x24], 0x8001, 4, []) := by
  decide

/-- `JSR $1234`. -/
theorem test_v163_jsr :
    shown ({ start with cfg := { Config.taken with stackPushPredecrement := false } }
      |> poke 0x8000 [0x20, 0x34, 0x12]) =
      some ([0x00, 0x00, 0x00, 0xFB, 0x24], 0x1234, 6, [(0x01FD, 0x80), (0x01FC, 0x02)]) := by
  decide

/-- `BRK`. -/
theorem test_v165_brk :
    shown ({ start with cfg := { Config.taken with brkPcPushOffset := 1 } }
      |> poke 0x8000 [0x00]
      |> poke 0xFFFE [0x00, 0x90]) =
      some ([0x00, 0x00, 0x00, 0xFA, 0x24], 0x9000, 7, [(0x01FC, 0x80), (0x01FB, 0x01), (0x01FA, 0x34)]) := by
  decide

/-- `JMP ($12FF)`. -/
theorem test_v166_jmp :
    shown ({ start with cfg := { Config.taken with jmpIndirectPageWrap := false } }
      |> poke 0x8000 [0x6C, 0xFF, 0x12]
      |> poke 0x12FF [0x34]
      |> poke 0x1200 [0x56]
      |> poke 0x1300 [0x99]) =
      some ([0x00, 0x00, 0x00, 0xFD, 0x24], 0x9934, 5, []) := by
  decide

/-! ### Interface calls, from part 2.8 of spec/95_test_vectors.md -/

/-- The memory of part 2.8 with some code at 0x8000: the three vectors, INX and RTI at 0x9000, INY and RTI at 0xA000. -/
def vectors (code : List Byte) : State :=
  powerUp Config.taken [] []
    |> poke 0xFFFA [0x00, 0x90, 0x00, 0x80, 0x00, 0xA0]
    |> poke 0x9000 [0xE8, 0x40]
    |> poke 0xA000 [0xC8, 0x40]
    |> poke 0x8000 code

/-- The state after one step. -/
def after (s : State) : Option State :=
  match step s with
  | .next t => some t
  | _ => none

/-- What one instruction makes of a state. -/
def result (i : Instr) (s : State) : Option State :=
  match exec i s with
  | .next t => some t
  | _ => none

/-- S1, the first row. -/
theorem test_s1_powerUp :
    (fun s : State => (s.pc, s.sp, s.p.toByte, s.bus)) (powerUp Config.taken [] (vectors [0xE8]).mem) =
      (0x8000, 0xFD, 0x34, [.read 0xFFFC 0x00, .read 0xFFFD 0x80]) := by
  decide

/-- S2, the last row: A, X, Y and the other flags stay, SP wraps. -/
theorem test_s2_reset :
    (fun s : State => (s.pc, s.sp, s.p.toByte, s.a, s.bus))
      (hardwareReset { vectors [0xA9] with a := 0x55, sp := 0x01, pc := 0x8004, p := status 0x3D }) =
      (0x8000, 0xFE, 0x3D, 0x55, [.read 0xFFFC 0x00, .read 0xFFFD 0x80]) := by
  decide

/-- S3, the step that services NMI though I is 1: the entry, then the handler's first instruction. -/
theorem test_s3_nmi :
    (after { vectors [0xEA] with pc := 0x8000, pendingNmi := true }).map
        (fun s => ((s.x, s.sp, s.pc, s.p.toByte), s.pendingNmi, s.elapsed, s.bus)) =
      some ((0x01, 0xFA, 0x9001, 0x24), false, 9,
        [.write 0x01FC 0x80, .write 0x01FB 0x00, .write 0x01FA 0x34, .read 0xFFFA 0x00, .read 0xFFFB 0x90,
         .read 0x9000 0xE8]) := by
  decide

/-- S4: a masked IRQ waits, latched. -/
theorem test_s4_irq_masked :
    (after { vectors [0xEA] with pc := 0x8000, pendingIrq := true }).map
        (fun s => ((s.sp, s.pc, s.p.toByte), s.pendingIrq, s.elapsed, s.bus)) =
      some ((0xFD, 0x8001, 0x34), true, 2, [.read 0x8000 0xEA]) := by
  decide

/-- S4: after CLI the IRQ is taken at the next boundary. -/
theorem test_s4_irq_taken :
    (after { vectors [0xEA, 0x58] with pc := 0x8002, pendingIrq := true, p := status 0x30 }).map
        (fun s => ((s.y, s.sp, s.pc, s.p.toByte), s.pendingIrq, s.elapsed, s.bus)) =
      some ((0x01, 0xFA, 0xA001, 0x24), false, 9,
        [.write 0x01FC 0x80, .write 0x01FB 0x02, .write 0x01FA 0x30, .read 0xFFFE 0x00, .read 0xFFFF 0xA0,
         .read 0xA000 0xC8]) := by
  decide

/-- S5: both latched, NMI first; the IRQ stays latched. -/
theorem test_s5_nmi_before_irq :
    (after { vectors [0x58] with pc := 0x8001, pendingNmi := true, pendingIrq := true, p := status 0x30 }).map
        (fun s => ((s.x, s.y, s.pc, s.p.toByte), s.pendingNmi, s.pendingIrq)) =
      some ((0x01, 0x00, 0x9001, 0x24), false, true) := by
  decide

/-- S6: the handler's first instruction is its RTI; one step enters and returns. -/
theorem test_s6_irq_enter_and_return :
    (after (poke 0xA000 [0x40] { vectors [0x58] with pc := 0x8001, pendingIrq := true, p := status 0x30 })).map
        (fun s => ((s.sp, s.pc, s.p.toByte), s.pendingIrq, s.elapsed)) =
      some ((0xFD, 0x8001, 0x20), false, 13) := by
  decide

/-- S7: a step while Halted is the error value, with or without a request; `reset` makes the machine run again. -/
theorem test_s7_halted :
    after (stop (vectors [0xE8])) = none ∧ after (requestInterrupt .nmi (stop (vectors [0xE8]))) = none ∧
    (hardwareReset (requestInterrupt .nmi (stop (vectors [0xE8])))).runState = .running ∧
    (hardwareReset (requestInterrupt .nmi (stop (vectors [0xE8])))).pendingNmi = false := by
  decide

/-- S8: with PUSH_B_ON_HW_INTERRUPT false the pushed copy has bit 4 clear. -/
theorem test_s8_irq_without_break :
    (after { vectors [0x58] with
        pc := 0x8001, pendingIrq := true, p := status 0x30
        cfg := { Config.taken with pushBOnHwInterrupt := false } }).map (fun s => s.bus.take 3) =
      some [.write 0x01FC 0x80, .write 0x01FB 0x01, .write 0x01FA 0x20] := by
  decide

/-- E1, the document's own example, its first step: on a zeroed bus LDA #$05 at 0x0000 runs from reset. -/
theorem test_e1_first_step :
    (after (poke 0x0000 [0xA9, 0x05, 0x69, 0x01] State.reset)).map (fun s => (s.a, s.pc, s.p.toByte, s.elapsed)) =
      some (0x05, 0x0002, 0x34, 2) := by
  decide

/-! ### The bus where it is not plain memory, from R51, R52, R57 and R61 -/

/-- A bus that is no plain memory at 0x2000 to 0x3FFF and in page 0xFF, the hole at 0x2005 apart. -/
def devices : State :=
  { start with
    addressMap :=
      [{ first := 0x2005, last := 0x2005, plain := true }, { first := 0x2000, last := 0x3FFF, plain := false },
       { first := 0xFF00, last := 0xFFFF, plain := false }] }

/-- The ends of a range are in it, and the first range that holds an address decides. -/
theorem test_address_map :
    devices.isPlain 0x1FFF = true ∧ devices.isPlain 0x2000 = false ∧ devices.isPlain 0x2005 = true ∧
    devices.isPlain 0x3FFF = false ∧ devices.isPlain 0x4000 = true ∧ devices.isPlain 0xFFFF = false ∧
    start.isPlain 0xFFFF = true := by
  decide

/-- LDA 0x2002: the data read is event 5, after two of PowerUp and three fetches, and A holds whatever it answers. -/
theorem test_bus_free_read :
    (after (poke 0x8000 [0xAD, 0x02, 0x20] devices)).map (fun s => (s.a, s.pc, s.portEvents, s.bus.getLast?)) =
      some (Config.busAnswer 5 0x2002, 0x8003, 6, some (.read 0x2002 (Config.busAnswer 5 0x2002))) := rfl

/-- STA 0x2002 is one write event, and plain memory stays; STA 0x2005 changes its byte. -/
theorem test_bus_write_outside_plain_memory :
    (result (.staAbs 0x2002) { devices with a := 0x5A }).map (fun s => (s.mem, s.bus)) = some ([], [.write 0x2002 0x5A]) ∧
    (result (.staAbs 0x2005) { devices with a := 0x5A }).map (fun s => (s.mem, s.bus)) = some ([(0x2005, 0x5A)], [.write 0x2005 0x5A]) := by
  decide

/-- PowerUp takes PC from whatever the vector reads, events 0 and 1, answer. -/
theorem test_powerUp_free_vector :
    (powerUp Config.taken devices.addressMap []).pc =
      Config.busAnswer 1 0xFFFD ++ Config.busAnswer 0 0xFFFC := rfl

/-! ### What the host calls -/

/-- LDA #$05 is A9 05: its second byte is bits 15..8 of the table's word. -/
theorem test_decodeTableWord :
    decodeTableWord 16 0x05A9 = some (.ldaImm 0x05) ∧ decodeTableWord 24 0x1234AD = some (.ldaAbs 0x1234) ∧
    decodeTableWord 8 0xFFEA = some .nop ∧ decodeTableWord 8 0xAD = some (.ldaAbs 0x0000) ∧
    decodeTableWord 8 0x02 = some (.ill 0x02) := by
  decide

/-- The very next step runs the placed instruction, as the first after reset. -/
theorem test_withFetchWord :
    (after (State.reset.withFetchWord 16 0x80A9)).map (fun s => (s.a, s.pc, s.p.toByte)) = some (0x80, 0x0002, 0xB4) ∧
    (after (State.reset.withFetchWord 24 0x12344C)).map (fun s => s.pc) = some 0x1234 := by
  decide

/-- The same where an interrupt is due and the machine is Halted: nothing else runs first. -/
theorem test_withFetchWord_interrupt_due :
    (after ({ vectors [0xEA] with
        pc := 0xFFFF, runState := .halted, pendingNmi := true, pendingIrq := true, p := status 0x20 }.withFetchWord
          24 0x12344C)).map (fun s => (s.pc, s.sp)) = some (0x1234, 0xFD) := by
  decide

/-- The same where the bus is no plain memory at all. -/
theorem test_withFetchWord_no_plain_memory :
    (after ({ start with pc := 0xFFFE, addressMap := [{ first := 0, last := 0xFFFF, plain := false }] }.withFetchWord
      24 0x12344C)).map (fun s => (s.pc, s.isPlain 0xFFFE, s.isPlain 0x0000, s.isPlain 0x0001)) =
        some (0x1234, true, true, false) := by
  decide

/-- P = 0xC3: C, Z, V and N are 1, I, D and B are 0. -/
theorem test_accessors :
    accessors { start with a := 0x11, x := 0x22, y := 0x33, p := status 0xC3 } =
      { a := 0x11, x := 0x22, y := 0x33, sp := 0xFD, pc := 0x8000, p := 0xE3
        carry := true, zero := true, interruptDisable := false, decimal := false, brk := false, overflow := true
        negative := true } := by
  decide

/-! ### Witnesses: a concrete state and operands that meet the hypotheses of each statement that has some -/

/-- A state that meets the invariant with memory listed, at the top of the address space too. -/
theorem witness_inv : (poke 0xFFFF [0x12, 0x34] start).Inv ∧ (vectors [0xE8]).Inv :=
  ⟨⟨by decide, Config.wf_taken⟩, ⟨by decide, Config.wf_taken⟩⟩

/-- DecodeOfEncodeIsIdentity: an instruction of each length, and the one with a check. -/
theorem witness_DecodeOfEncodeIsIdentity :
    (Instr.ill 0xFF).wellFormed = true ∧ (Instr.nop).wellFormed = true ∧ (Instr.bne 0xFF).wellFormed = true ∧
    (Instr.ldaAbs 0xFFFF).wellFormed = true := by
  decide

theorem witness_EncodeOfDecodeIsIdentity :
    decode [0xAD, 0xFF, 0xFF, 0x00] = .ok (.ldaAbs 0xFFFF, [0x00]) ∧ decode [0x02] = .ok (.ill 0x02, []) := ⟨rfl, rfl⟩

/-- WriteChangesOneByte: a canonical memory, and two that agree everywhere. -/
theorem witness_WriteChangesOneByte :
    Memory.wf [(0, 0x01), (0xFFFF, 0xFF)] = true ∧ (∀ a : Word, Memory.read [(5, 0x01)] a.toNat =
      Memory.read (Memory.write [(5, 0x01)] 9 0x00) a.toNat) := ⟨by decide, fun _ => rfl⟩

theorem witness_LoadsPutTheByteInTheRegister :
    ldaForm (.immediate 0xFF) = some (0xA9, .ldaImm 0xFF) ∧
    ldaForm (.memory (.indirectY 0xFF)) = some (0xB1, .ldaIndY 0xFF) ∧
    ldxForm (.memory (.zeroPageY 0xFF)) = some (0xB6, .ldxZpY 0xFF) ∧
    ldyForm (.memory (.absoluteX 0xFFFF)) = some (0xBC, .ldyAbsX 0xFFFF) := by
  decide

theorem witness_StoresWriteTheRegister :
    (vectors [0xE8]).Inv ∧ staForm (.indirectX 0xFF) = some (0x81, .staIndX 0xFF) ∧
    stxForm (.zeroPageY 0x00) = some (0x96, .stxZpY 0x00) ∧ styForm (.absolute 0xFFFF) = some (0x8C, .styAbs 0xFFFF) :=
  ⟨⟨by decide, Config.wf_taken⟩, by decide⟩

theorem witness_AdcAddsWithCarry :
    adcForm (.immediate 0x01) = some (0x69, .adcImm 0x01) ∧
    adcForm (.memory (.absoluteY 0xFFFF)) = some (0x79, .adcAbsY 0xFFFF) := by
  decide

/-- For SbcAddsTheComplement and SbcSubtractsWithBorrow. -/
theorem witness_SbcSubtractsWithBorrow :
    sbcForm (.immediate 0x01) = some (0xE9, .sbcImm 0x01) ∧
    sbcForm (.memory (.indirectY 0xFF)) = some (0xF1, .sbcIndY 0xFF) := by
  decide

theorem witness_ComparesSetCarryZeroNegative :
    cmpForm (.memory (.absoluteX 0x12F0)) = some (0xDD, .cmpAbsX 0x12F0) ∧
    cpxForm (.immediate 0x10) = some (0xE0, .cpxImm 0x10) ∧
    cpyForm (.memory (.zeroPage 0xFF)) = some (0xC4, .cpyZp 0xFF) := by
  decide

theorem witness_IncDecModifyMemory :
    (vectors [0xE8]).Inv ∧ incForm (.absoluteX 0xFFFF) = some (0xFE, .incAbsX 0xFFFF) ∧
    decForm (.zeroPageX 0xFF) = some (0xD6, .decZpX 0xFF) :=
  ⟨⟨by decide, Config.wf_taken⟩, by decide⟩

theorem witness_LogicCombinesWithA :
    andForm (.memory (.indirectX 0xFE)) = some (0x21, .andIndX 0xFE) ∧
    oraForm (.immediate 0x80) = some (0x09, .oraImm 0x80) ∧
    eorForm (.memory (.absolute 0x0000)) = some (0x4D, .eorAbs 0x0000) := by
  decide

theorem witness_BitTestsMemory :
    bitForm (.zeroPage 0x10) = some (0x24, .bitZp 0x10) ∧ bitForm (.absolute 0xFFFF) = some (0x2C, .bitAbs 0xFFFF) := by
  decide

theorem witness_ShiftsMoveThroughCarry :
    (vectors [0xE8]).Inv ∧ aslForm (.zeroPage 0xFF) = some (0x06, .aslZp 0xFF) ∧
    lsrForm (.zeroPageX 0xFF) = some (0x56, .lsrZpX 0xFF) ∧ rolForm (.absolute 0xFFFF) = some (0x2E, .rolAbs 0xFFFF) ∧
    rorForm (.absoluteX 0xFFFF) = some (0x7E, .rorAbsX 0xFFFF) :=
  ⟨⟨by decide, Config.wf_taken⟩, by decide⟩

/-- PushesWriteTheStack, for both instructions, with SP at 0x00 where the push wraps. -/
theorem witness_PushesWriteTheStack :
    ({ vectors [0x48] with sp := 0x00 } : State).Inv ∧
    ((0x48 : Byte), Instr.pha, start.a) ∈
      [((0x48 : Byte), Instr.pha, start.a), (0x08, .php, start.p.toByte ||| 0x30)] ∧
    ((0x08 : Byte), Instr.php, start.p.toByte ||| 0x30) ∈
      [((0x48 : Byte), Instr.pha, start.a), (0x08, .php, start.p.toByte ||| 0x30)] :=
  ⟨⟨by decide, Config.wf_taken⟩, by decide⟩

/-- PullUndoesPush, JsrPushesReturnMinusOne, RtsUndoesJsr, BrkEntersThroughIrqVector, RtiUndoesEntry and
StoreIsSeenByTheNextFetch ask for the invariant, and most of them that the bytes pushed or stored are plain memory: here at
SP 0x00 and PC 0xFFFF, with both values of the stack order and of BRK's offset, and on a bus with devices. -/
theorem witness_stack_statements :
    (let s := ({ vectors [0x00] with sp := 0x00, pc := 0xFFFF } : State)
     s.Inv ∧ s.isPlain s.pc = true ∧ s.isPlain (pushAt s 1) = true ∧ s.isPlain (pushAt s 2) = true ∧
       s.isPlain (pushAt s 3) = true) ∧
    (let s := ({ devices with
        sp := 0x00
        cfg := { Config.taken with stackPushPredecrement := false, brkPcPushOffset := 1 } } : State)
     s.Inv ∧ s.isPlain s.pc = true ∧ s.isPlain (pushAt s 1) = true ∧ s.isPlain (pushAt s 2) = true ∧
       s.isPlain (pushAt s 3) = true) :=
  ⟨⟨⟨by decide, Config.wf_taken⟩, by decide⟩, ⟨⟨by decide, Config.wf_of_taken rfl rfl (by decide)⟩, by decide⟩⟩

/-- BusAnswersEveryAccess: a state with the invariant that has an address of each kind. -/
theorem witness_BusAnswersEveryAccess :
    devices.Inv ∧ devices.isPlain 0x2000 = false ∧ devices.isPlain 0x1FFF = true :=
  ⟨⟨by decide, Config.wf_taken⟩, by decide⟩

theorem witness_JumpGoesToTheOperand :
    jmpForm (.absolute 0xFFFF) = some (0x4C, .jmpAbs 0xFFFF) ∧ jmpForm (.indirect 0x12FF) = some (0x6C, .jmpInd 0x12FF) := by
  decide

/-- InterruptEntrySavesAndVectors and RtiUndoesEntry: each vector. -/
theorem witness_InterruptEntrySavesAndVectors :
    (vectors [0xE8]).Inv ∧ ((0xFFFA : Word) = 0xFFFA ∨ (0xFFFA : Word) = 0xFFFE) ∧
    ((0xFFFE : Word) = 0xFFFA ∨ (0xFFFE : Word) = 0xFFFE) :=
  ⟨⟨by decide, Config.wf_taken⟩, by decide⟩

/-- BranchesFollowTheirFlag: taken and not taken. -/
theorem witness_BranchesFollowTheirFlag :
    ((0x90 : Byte), Instr.bcc 0x80, true) ∈ branchForms 0x80 start.p ∧
    ((0x70 : Byte), Instr.bvs 0x7F, false) ∈ branchForms 0x7F start.p := by
  decide

theorem witness_IllegalOpcodeIsInert : isIllegal 0x02 = true ∧ isIllegal 0xFF = true := by decide

/-- StepRunsTheDecodedInstruction: three bytes that wrap at the top of memory, no interrupt due, an IRQ masked or none. -/
theorem witness_StepRunsTheDecodedInstruction :
    let s := { poke 0xFFFE [0x4C, 0x34, 0x12] start with pc := 0xFFFE, pendingIrq := true }
    decode [answer s 0 s.pc, answer s 1 (s.pc + 1), answer s 2 (s.pc + 2)] = .ok (.jmpAbs 0x1234, []) ∧
    s.runState = .running ∧ s.pendingNmi = false ∧ s.p.i = true ∧ start.pendingIrq = false := by
  refine ⟨rfl, rfl, rfl, rfl, rfl⟩

/-- StepServicesAtMostOneInterrupt: each of its three cases, the last in both ways. -/
theorem witness_StepServicesAtMostOneInterrupt :
    start.runState = .running ∧ (requestInterrupt .nmi start).pendingNmi = true ∧
    (requestInterrupt .irq start).pendingNmi = false ∧ (requestInterrupt .irq start).pendingIrq = true ∧
    (status 0x20).i = false ∧ start.p.i = true ∧ start.pendingIrq = false := by
  decide

/-- LatchesClearOnlyWhenServiced, InvKeptByEveryStep, BusEventsReplayEveryStep, NothingReadsTheStoredBreak and
CycleCountsAffectNothingElse: a step that answers a next state from a state with the invariant, with each interrupt due
and with none. -/
theorem witness_step_statements :
    (vectors [0xE8]).Inv ∧ (∃ t, step (vectors [0xE8]) = .next t) ∧
    (∃ t, step (requestInterrupt .nmi (vectors [0xE8])) = .next t) ∧
    (∃ t, step { vectors [0xE8] with pendingIrq := true, p := status 0x20 } = .next t) :=
  ⟨⟨by decide, Config.wf_taken⟩, ⟨_, rfl⟩, ⟨_, rfl⟩, ⟨_, rfl⟩⟩

theorem witness_StepStopsExactlyWhileHalted : (stop start).runState = .halted ∧ start.runState = .running := by decide

/-- InvKeptByEveryRun: a run of all four calls. -/
theorem witness_InvKeptByEveryRun :
    (vectors [0xE8]).Inv ∧ ∃ t, Runs [.step, .requestInterrupt .nmi, .stop, .reset] (vectors [0xE8]) t :=
  ⟨⟨by decide, Config.wf_taken⟩, _, _, rfl, _, rfl, _, rfl, _, rfl, rfl⟩

theorem witness_RunsWithoutStopAreSafe :
    Call.stop ∉ [Call.step, Call.requestInterrupt .irq, Call.reset, Call.step] ∧ start.runState = .running := by
  decide

/-- FlagsChangeOnlyByTheirWriters: each flag is changed by some instruction. -/
theorem witness_FlagsChangeOnlyByTheirWriters :
    (result .sec start).map (fun t => t.p.c != start.p.c) = some true ∧
    (result (.ldaImm 0x00) start).map (fun t => t.p.z != start.p.z) = some true ∧
    (result (.ldaImm 0x80) start).map (fun t => t.p.n != start.p.n) = some true ∧
    (result .cli start).map (fun t => t.p.i != start.p.i) = some true ∧
    (result .sed start).map (fun t => t.p.d != start.p.d) = some true ∧
    (result .brk { start with p := status 0x30 }).map (fun t => t.p.b != true) = some true ∧
    (result (.adcImm 0x7F) { start with a := 0x01 }).map (fun t => t.p.v != start.p.v) = some true := by
  decide

/-- RegistersChangeOnlyByTheirWriters: each register, PC and memory are changed by some instruction. -/
theorem witness_RegistersChangeOnlyByTheirWriters :
    (result (.ldaImm 0x01) start).map (fun t => t.a != start.a) = some true ∧
    (result .inx start).map (fun t => t.x != start.x) = some true ∧
    (result .iny start).map (fun t => t.y != start.y) = some true ∧
    (result .txs start).map (fun t => t.sp != start.sp) = some true ∧
    (result (.jmpAbs 0x1234) start).map (fun t => t.pc != start.pc) = some true ∧
    (result (.incZp 0x10) start).map (fun t => t.mem != start.mem) = some true := by
  decide

/-- CycleCountsAffectNothingElse: two states that differ in the count and in the timing parameters alone. -/
theorem witness_CycleCountsAffectNothingElse :
    let s' := { start with elapsed := 9, cfg := { Config.taken with baseCycles := [], interruptCycles := 0 } }
    timeless start = timeless s' ∧ start ≠ s' := by
  decide

end Sys2Proof.Tests
end

/-! PROOFS. The control interface (R12, R38): what the accessors show, and that every call of the environment keeps the
invariant of the machine. -/

namespace Sys2Proof.Machine

/-! ### P as a byte (R25) -/

/-- A byte that holds one flag has that flag at its own bit and 0 at every other. -/
theorem getLsbD_bitAt (f : Bool) {k : Nat} (hk : k < 8) (j : Nat) : (bitAt f k).getLsbD j = (f && decide (j = k)) := by
  cases f with
  | false => simp [bitAt]
  | true =>
    have h : bitAt true k = BitVec.twoPow 8 k := rfl
    simp [h, BitVec.getLsbD_twoPow, hk, eq_comm]

/-- Bit `k` of P: N V 1 B D I Z C, from bit 7 down (R25, R26). -/
theorem Status.getLsbD_toByte (p : Status) (k : Nat) :
    p.toByte.getLsbD k =
      (p.n && decide (k = 7) || p.v && decide (k = 6) || true && decide (k = 5) || p.b && decide (k = 4) ||
        p.d && decide (k = 3) || p.i && decide (k = 2) || p.z && decide (k = 1) || p.c && decide (k = 0)) := by
  simp [Status.toByte, getLsbD_bitAt]

/-! ### What no instruction touches -/

/-- What every instruction leaves as it was: the latches, the run state, the address map, the parameters, and the
canonical form of memory (R20, R34; log 1). -/
def Keeps (s t : State) : Prop :=
  t.pendingNmi = s.pendingNmi ∧ t.pendingIrq = s.pendingIrq ∧ t.runState = s.runState ∧
    t.addressMap = s.addressMap ∧ t.cfg = s.cfg ∧ (s.mem.wf = true → t.mem.wf = true)

/-- The answer is a next state, no fault and no refusal, that keeps what `Keeps` names. -/
def Completes (s : State) (r : Result) : Prop := ∃ t, r = .next t ∧ Keeps s t

theorem Keeps.refl (s : State) : Keeps s s := ⟨rfl, rfl, rfl, rfl, rfl, id⟩

theorem Keeps.inv {s t : State} (h : Keeps s t) (hs : s.Inv) : t.Inv := by
  obtain ⟨-, -, -, -, cfg_eq, mem_wf⟩ := h
  obtain ⟨hmem, hcfg⟩ := hs
  exact ⟨mem_wf hmem, cfg_eq ▸ hcfg⟩

theorem resolve_keeps (o : MemOperand) (s : State) : Keeps s (resolve o s).after := by simp [Keeps]

theorem readOperand_keeps (o : ReadOperand) (s : State) : Keeps s (readOperand o s).after := by simp [Keeps]

/-- A write at the resolved address keeps the canonical form, and leaves the rest as resolving does. -/
theorem resolve_write_keeps (o : MemOperand) (v : Byte) (s : State) :
    Keeps s { (resolve o s).after with mem := s.memAfterWrite (resolve o s).addr v } := by
  simpa [Keeps] using fun h => memAfterWrite_wf h _ _

theorem push8_keeps (v : Byte) (s : State) : Keeps s (push8 v s) := ⟨rfl, rfl, rfl, rfl, rfl, (push8_wf · v)⟩

theorem callSubroutine_keeps (target : Word) (s : State) : Keeps s (callSubroutine target s) :=
  ⟨rfl, rfl, rfl, rfl, rfl, (callSubroutine_wf · target)⟩

theorem softwareInterrupt_keeps (s : State) : Keeps s (softwareInterrupt s) := by
  simpa [Keeps, softwareInterrupt_eq] using softwareInterrupt_wf

theorem returnFromInterrupt_keeps (s : State) : Keeps s (returnFromInterrupt s) := by
  simp [Keeps, returnFromInterrupt_eq, pull16]

theorem returnFromSubroutine_keeps (s : State) : Keeps s (returnFromSubroutine s) := Keeps.refl s

/-! ### Every instruction completes and keeps that -/

/-- Reporting cycles touches none of what `Keeps` names, so an instruction completes as its effect does. -/
theorem retire_completes {s t : State} (h : Keeps s t) (op : Byte) (crossed : Bool) (extra : Nat) :
    Completes s (retire op crossed extra t) := ⟨_, retire_eq op crossed extra t, h⟩

section
variable (op : Byte) (o : ReadOperand) (s : State)
theorem loadA_completes : Completes s (loadA op o s) := ⟨_, loadA_eq op o s, readOperand_keeps o s⟩
theorem loadX_completes : Completes s (loadX op o s) := ⟨_, loadX_eq op o s, readOperand_keeps o s⟩
theorem loadY_completes : Completes s (loadY op o s) := ⟨_, loadY_eq op o s, readOperand_keeps o s⟩
theorem adc_completes : Completes s (adc op o s) := ⟨_, adc_eq op o s, readOperand_keeps o s⟩
theorem sbc_completes : Completes s (sbc op o s) := ⟨_, sbc_eq op o s, readOperand_keeps o s⟩
theorem compareWith_completes (reg : Byte) : Completes s (compareWith op reg o s) :=
  ⟨_, compareWith_eq op o s reg, readOperand_keeps o s⟩
theorem andA_completes : Completes s (andA op o s) := ⟨_, andA_eq op o s, readOperand_keeps o s⟩
theorem oraA_completes : Completes s (oraA op o s) := ⟨_, oraA_eq op o s, readOperand_keeps o s⟩
theorem eorA_completes : Completes s (eorA op o s) := ⟨_, eorA_eq op o s, readOperand_keeps o s⟩
end

section
variable (op : Byte) (o : MemOperand) (s : State)
theorem bitTest_completes : Completes s (bitTest op o s) := ⟨_, bitTest_eq op o s, readOperand_keeps (.memory o) s⟩
theorem store_completes (v : Byte) : Completes s (store op v o s) := ⟨_, store_eq op o s v, resolve_write_keeps o _ s⟩
theorem shiftMem_completes (f : Byte → Bool → Byte × Bool) : Completes s (shiftMem op f o s) :=
  ⟨_, shiftMem_eq op o s f, resolve_write_keeps o _ s⟩
theorem incMem_completes : Completes s (incMem op o s) := ⟨_, incMem_eq op o s, resolve_write_keeps o _ s⟩
theorem decMem_completes : Completes s (decMem op o s) := ⟨_, decMem_eq op o s, resolve_write_keeps o _ s⟩
theorem jump_completes : Completes s (jump op o s) := ⟨_, jump_eq op o s, resolve_keeps o s⟩
end

theorem shiftA_completes (op : Byte) (f : Byte → Bool → Byte × Bool) (s : State) : Completes s (shiftA op f s) :=
  ⟨_, shiftA_eq op f s, Keeps.refl s⟩

theorem branch_completes (op : Byte) (cond : Bool) (rel : Byte) (s : State) : Completes s (branch op cond rel s) :=
  ⟨_, branch_eq op cond rel s, Keeps.refl s⟩

theorem execIll_completes (opcode : Byte) (s : State) : Completes s (execIll opcode s) :=
  ⟨_, execIll_eq opcode s, Keeps.refl s⟩

/-- Every instruction completes and leaves what `Keeps` names as it was: one case for each family, by the operation the
family shares. -/
theorem exec_completes (i : Instr) (s : State) : Completes s (exec i s) := by
  cases i with
  | ldaImm | ldaZp | ldaZpX | ldaAbs | ldaAbsX | ldaAbsY | ldaIndX | ldaIndY => exact loadA_completes _ _ s
  | ldxImm | ldxZp | ldxZpY | ldxAbs | ldxAbsY => exact loadX_completes _ _ s
  | ldyImm | ldyZp | ldyZpX | ldyAbs | ldyAbsX => exact loadY_completes _ _ s
  | staZp | staZpX | staAbs | staAbsX | staAbsY | staIndX | staIndY | stxZp | stxZpY | stxAbs | styZp | styZpX | styAbs =>
    exact store_completes _ _ s _
  | adcImm | adcZp | adcZpX | adcAbs | adcAbsX | adcAbsY | adcIndX | adcIndY => exact adc_completes _ _ s
  | sbcImm | sbcZp | sbcZpX | sbcAbs | sbcAbsX | sbcAbsY | sbcIndX | sbcIndY => exact sbc_completes _ _ s
  | cmpImm | cmpZp | cmpZpX | cmpAbs | cmpAbsX | cmpAbsY | cmpIndX | cmpIndY | cpxImm | cpxZp | cpxAbs | cpyImm | cpyZp
  | cpyAbs => exact compareWith_completes _ _ s _
  | incZp | incZpX | incAbs | incAbsX => exact incMem_completes _ _ s
  | decZp | decZpX | decAbs | decAbsX => exact decMem_completes _ _ s
  | andImm | andZp | andZpX | andAbs | andAbsX | andAbsY | andIndX | andIndY => exact andA_completes _ _ s
  | oraImm | oraZp | oraZpX | oraAbs | oraAbsX | oraAbsY | oraIndX | oraIndY => exact oraA_completes _ _ s
  | eorImm | eorZp | eorZpX | eorAbs | eorAbsX | eorAbsY | eorIndX | eorIndY => exact eorA_completes _ _ s
  | bitZp | bitAbs => exact bitTest_completes _ _ s
  | aslA | lsrA | rolA | rorA => exact shiftA_completes _ _ s
  | aslZp | aslZpX | aslAbs | aslAbsX | lsrZp | lsrZpX | lsrAbs | lsrAbsX | rolZp | rolZpX | rolAbs | rolAbsX | rorZp
  | rorZpX | rorAbs | rorAbsX => exact shiftMem_completes _ _ s _
  | jmpAbs | jmpInd => exact jump_completes _ _ s
  | bcc | bcs | beq | bne | bmi | bpl | bvc | bvs => exact branch_completes _ _ _ s
  | pha | php => exact retire_completes (push8_keeps _ s) _ _ _
  | jsrAbs target => exact retire_completes (callSubroutine_keeps target s) _ _ _
  | rts => exact retire_completes (returnFromSubroutine_keeps s) _ _ _
  | brk => exact retire_completes (softwareInterrupt_keeps s) _ _ _
  | rti => exact retire_completes (returnFromInterrupt_keeps s) _ _ _
  | tax | tay | txa | tya | txs | tsx | inx | iny | dex | dey | pla | plp | clc | sec | cli | sei | clv | cld | sed
  | nop =>
    apply retire_completes
    exact Keeps.refl s
  | ill opcode => exact execIll_completes opcode s

/-! ### The invariant, from call to call -/

theorem fetch_inv {s : State} (h : s.Inv) : (fetch s).2.Inv := by simpa [State.Inv] using h

theorem serviceInterrupts_inv {s : State} (h : s.Inv) : (serviceInterrupts s).Inv :=
  ⟨serviceInterrupts_wf h.1, by simpa using h.2⟩

theorem exec_inv {i : Instr} {s t : State} (h : s.Inv) (e : exec i s = .next t) : t.Inv := by
  obtain ⟨u, hu, hk⟩ := exec_completes i s
  obtain rfl : u = t := by simpa [hu] using e
  exact hk.inv h

/-- A step keeps the invariant: servicing, fetching and executing each do (R240). -/
theorem step_inv {s t : State} (h : s.Inv) (e : step s = .next t) : t.Inv := by
  cases hr : s.runState with
  | halted => simp [step_halted hr] at e
  | running =>
    rw [step_running hr] at e
    have hc : (clearOutputs s).Inv := h
    exact exec_inv (fetch_inv (serviceInterrupts_inv hc)) e

/-- Every call keeps the invariant: the calls other than `step` touch neither memory nor a parameter (R233, R250, R272). -/
theorem perform_inv {c : Call} {s t : State} (h : s.Inv) (e : perform c s = .next t) : t.Inv := by
  cases c with
  | step => exact step_inv h e
  | reset => cases e; exact h
  | requestInterrupt k => cases e; cases k <;> exact h
  | stop => cases e; exact h

theorem runs_inv {cs : List Call} {s t : State} (h : s.Inv) (r : Runs cs s t) : t.Inv := by
  induction cs generalizing s with
  | nil =>
    obtain rfl : t = s := r
    exact h
  | cons c cs ih =>
    obtain ⟨u, hu, r⟩ := r
    exact ih (perform_inv h hu) r

/-! ### The statements -/

/-- Settles O49: each call keeps the invariant, so a run of calls does, by induction on the list of calls. -/
theorem invKeptByEveryRun : Obligations.InvKeptByEveryRun :=
  fun _ _ _ h r => runs_inv h r

/-- Settles O8: the accessors copy the registers and flags, and P's byte holds each flag at its bit of R25. -/
theorem accessorsShowRegistersAndFlags : Obligations.AccessorsShowRegistersAndFlags := by
  intro s
  simp only [accessors, Status.getLsbD_toByte]
  simp

/-- Settles O47: the memory at reset lists nothing, and its parameters are the ones the spec takes (R6, R270). -/
theorem invAtReset : Obligations.InvAtReset :=
  ⟨Memory.wf_nil, Config.wf_taken⟩

end Sys2Proof.Machine

/-! PROOFS. The state (R20 to R36): the layout of P, the round trip over the stack, the latches after a step, which
instructions write which element, and that nothing reads the stored Break bit or the outputs of the step before. -/

namespace Sys2Proof.Machine

open Sys2Proof.Claims (pushAt stackPlace word withBreak)

/-! ### The stack (R23, R27, R28) -/

/-- The claims' `hi * 256 + lo` is the model's `hi:lo` (R7). -/
theorem word_eq_join (hi lo : Byte) : word hi lo = join hi lo := by
  have hlo := lo.isLt
  have hhi := hi.isLt
  apply BitVec.eq_of_toNat_eq
  rw [join_toNat, word, BitVec.toNat_ofNat]
  omega

/-- The first push writes where the model's `Push8` does, in both stack orders. -/
theorem pushAt_one (s : State) : pushAt s 1 = pushAddr s.cfg s.sp := by
  simp only [pushAt, stackPlace, word_eq_join, pushAddr, stackAddr]
  cases s.cfg.stackPushPredecrement <;> simp

/-- A pull reads where the push before it wrote, and plain memory answers with the byte pushed. -/
theorem pull8_push8_value {s : State} (h : s.mem.wf = true) (hp : s.isPlain (pushAddr s.cfg s.sp) = true) (v : Byte) :
    (pull8 (push8 v s)).1 = v := by
  simp [answerAt_push8 h, hp]

/-! ### The latches (R32, R233, R235, R240) -/

/-- What servicing leaves of the latches: no NMI, and the IRQ that an NMI or the mask held back (R233, R235, R240). -/
theorem serviceInterrupts_latches (s : State) :
    (serviceInterrupts s).pendingNmi = false ∧
      (serviceInterrupts s).pendingIrq = (s.pendingIrq && (s.pendingNmi || s.p.i)) := by
  rcases serviceInterrupts_cases s with ⟨nmi, e⟩ | ⟨nmi, irq, unmasked, e⟩ | ⟨nmi, held, e⟩ <;> rw [e]
  · simp [service, clearLatch, nmi]
  · simp [service, clearLatch, nmi, irq, unmasked]
  · rcases held with irq | masked <;> simp [*]

/-! ### The flags that a computation on P keeps (R10, R143, R164 to R168) -/

section
variable (v : Byte) (p : Status)
@[simp] theorem Status.setZN_c : (p.setZN v).c = p.c := rfl
@[simp] theorem Status.setZN_i : (p.setZN v).i = p.i := rfl
@[simp] theorem Status.setZN_d : (p.setZN v).d = p.d := rfl
@[simp] theorem Status.setZN_b : (p.setZN v).b = p.b := rfl
@[simp] theorem Status.setZN_v : (p.setZN v).v = p.v := rfl
end

section
variable (reg m : Byte) (p : Status)
@[simp] theorem Status.compare_i : (p.compare reg m).i = p.i := rfl
@[simp] theorem Status.compare_d : (p.compare reg m).d = p.d := rfl
@[simp] theorem Status.compare_b : (p.compare reg m).b = p.b := rfl
@[simp] theorem Status.compare_v : (p.compare reg m).v = p.v := rfl
@[simp] theorem Status.bitTest_c : (p.bitTest reg m).c = p.c := rfl
@[simp] theorem Status.bitTest_i : (p.bitTest reg m).i = p.i := rfl
@[simp] theorem Status.bitTest_d : (p.bitTest reg m).d = p.d := rfl
@[simp] theorem Status.bitTest_b : (p.bitTest reg m).b = p.b := rfl
end

section
variable (r : Byte × Bool) (p : Status)
@[simp] theorem Status.shifted_i : (p.shifted r).i = p.i := rfl
@[simp] theorem Status.shifted_d : (p.shifted r).d = p.d := rfl
@[simp] theorem Status.shifted_b : (p.shifted r).b = p.b := rfl
@[simp] theorem Status.shifted_v : (p.shifted r).v = p.v := rfl
end

/-! ### What each instruction may write (R21 to R24, R29, R53) -/

/-- The elements of the state that instructions write: the registers, PC, memory, and each flag of P. -/
inductive Element where
  | a | x | y | sp | pc | mem
  | c | z | n | i | d | b | v

/-- The element is the same in both states. -/
def Element.Same (s t : State) : Element → Prop
  | .a => t.a = s.a
  | .x => t.x = s.x
  | .y => t.y = s.y
  | .sp => t.sp = s.sp
  | .pc => t.pc = s.pc
  | .mem => t.mem = s.mem
  | .c => t.p.c = s.p.c
  | .z => t.p.z = s.p.z
  | .n => t.p.n = s.p.n
  | .i => t.p.i = s.p.i
  | .d => t.p.d = s.p.d
  | .b => t.p.b = s.p.b
  | .v => t.p.v = s.p.v

/-- The mnemonics the spec names for each element: the lists of the two statements (R21 to R24, R29, R53). -/
def Element.writers : Element → List String
  | .a => ["ADC", "SBC", "AND", "ORA", "EOR", "LDA", "PLA", "TXA", "TYA", "ASL", "LSR", "ROL", "ROR"]
  | .x => ["LDX", "TAX", "TSX", "INX", "DEX"]
  | .y => ["LDY", "TAY", "INY", "DEY"]
  | .sp => ["PHA", "PHP", "PLA", "PLP", "JSR", "RTS", "BRK", "RTI", "TXS"]
  | .pc => ["JMP", "JSR", "RTS", "RTI", "BRK", "BCC", "BCS", "BEQ", "BNE", "BMI", "BPL", "BVC", "BVS", "ILL"]
  | .mem => ["STA", "STX", "STY", "ASL", "LSR", "ROL", "ROR", "INC", "DEC", "PHA", "PHP", "JSR", "BRK"]
  | .c => ["ADC", "SBC", "CMP", "CPX", "CPY", "ASL", "LSR", "ROL", "ROR", "CLC", "SEC", "PLP", "RTI"]
  | .z | .n =>
    ["ADC", "SBC", "CMP", "CPX", "CPY", "ASL", "LSR", "ROL", "ROR", "LDA", "LDX", "LDY", "TAX", "TAY", "TXA", "TYA",
     "TSX", "INC", "INX", "INY", "DEC", "DEX", "DEY", "AND", "ORA", "EOR", "BIT", "PLA", "PLP", "RTI"]
  | .i => ["SEI", "CLI", "PLP", "RTI", "BRK"]
  | .d => ["SED", "CLD", "PLP", "RTI"]
  | .b => ["BRK", "PLP", "RTI"]
  | .v => ["ADC", "SBC", "BIT", "CLV", "PLP", "RTI"]

/-- From `s` to `t` no element outside the list changes. -/
def ChangesAtMost (es : List Element) (s t : State) : Prop := ∀ e, e ∉ es → e.Same s t

/-- The same, element by element. -/
theorem changesAtMost_iff (es : List Element) (s t : State) :
    ChangesAtMost es s t ↔
      (.a ∉ es → t.a = s.a) ∧ (.x ∉ es → t.x = s.x) ∧ (.y ∉ es → t.y = s.y) ∧ (.sp ∉ es → t.sp = s.sp) ∧
      (.pc ∉ es → t.pc = s.pc) ∧ (.mem ∉ es → t.mem = s.mem) ∧ (.c ∉ es → t.p.c = s.p.c) ∧
      (.z ∉ es → t.p.z = s.p.z) ∧ (.n ∉ es → t.p.n = s.p.n) ∧ (.i ∉ es → t.p.i = s.p.i) ∧
      (.d ∉ es → t.p.d = s.p.d) ∧ (.b ∉ es → t.p.b = s.p.b) ∧ (.v ∉ es → t.p.v = s.p.v) := by
  constructor
  · intro h
    exact ⟨h .a, h .x, h .y, h .sp, h .pc, h .mem, h .c, h .z, h .n, h .i, h .d, h .b, h .v⟩
  · rintro ⟨a, x, y, sp, pc, mem, c, z, n, i, d, b, v⟩ e
    cases e <;> assumption

/-- The answer is a next state that differs from `s` in the listed elements at most. -/
def Writes (es : List Element) (s : State) (r : Result) : Prop := ∃ t, r = .next t ∧ ChangesAtMost es s t

/-- The answer is a next state that differs from `s` only in elements that name `m` as a writer. -/
def WritesAs (m : String) (s : State) (r : Result) : Prop :=
  ∃ t, r = .next t ∧ ∀ e : Element, ¬ e.Same s t → m ∈ e.writers

/-- What an operation writes it may write under a mnemonic that every listed element names. -/
theorem Writes.as {es : List Element} {s : State} {r : Result} {m : String} (h : Writes es s r)
    (hm : ∀ e ∈ es, m ∈ e.writers := by simp [Instr.mnemonic, Element.writers]) : WritesAs m s r := by
  obtain ⟨t, ht, hc⟩ := h
  exact ⟨t, ht, fun e hd => hm e (by_contra fun he => hd (hc e he))⟩

/-- Reporting cycles changes no element. -/
theorem retire_writes (es : List Element) {s t : State} (h : ChangesAtMost es s t) {op : Byte} {crossed : Bool}
    {extra : Nat} : Writes es s (retire op crossed extra t) := by
  refine ⟨_, retire_eq op crossed extra t, ?_⟩
  simpa [changesAtMost_iff] using h

section
variable (op : Byte) (o : ReadOperand) (s : State)
theorem loadA_writes : Writes [.a, .z, .n] s (loadA op o s) := ⟨_, loadA_eq op o s, by simp [changesAtMost_iff]⟩
theorem loadX_writes : Writes [.x, .z, .n] s (loadX op o s) := ⟨_, loadX_eq op o s, by simp [changesAtMost_iff]⟩
theorem loadY_writes : Writes [.y, .z, .n] s (loadY op o s) := ⟨_, loadY_eq op o s, by simp [changesAtMost_iff]⟩
theorem adc_writes : Writes [.a, .c, .z, .n, .v] s (adc op o s) := ⟨_, adc_eq op o s, by simp [changesAtMost_iff]⟩
theorem sbc_writes : Writes [.a, .c, .z, .n, .v] s (sbc op o s) := ⟨_, sbc_eq op o s, by simp [changesAtMost_iff]⟩
theorem compareWith_writes (reg : Byte) : Writes [.c, .z, .n] s (compareWith op reg o s) :=
  ⟨_, compareWith_eq op o s reg, by simp [changesAtMost_iff]⟩
theorem andA_writes : Writes [.a, .z, .n] s (andA op o s) := ⟨_, andA_eq op o s, by simp [changesAtMost_iff]⟩
theorem oraA_writes : Writes [.a, .z, .n] s (oraA op o s) := ⟨_, oraA_eq op o s, by simp [changesAtMost_iff]⟩
theorem eorA_writes : Writes [.a, .z, .n] s (eorA op o s) := ⟨_, eorA_eq op o s, by simp [changesAtMost_iff]⟩
end

section
variable (op : Byte) (o : MemOperand) (s : State)
theorem bitTest_writes : Writes [.z, .n, .v] s (bitTest op o s) :=
  ⟨_, bitTest_eq op o s, by simp [changesAtMost_iff]⟩
theorem store_writes (v : Byte) : Writes [.mem] s (store op v o s) :=
  ⟨_, store_eq op o s v, by simp [changesAtMost_iff]⟩
theorem shiftMem_writes (f : Byte → Bool → Byte × Bool) : Writes [.mem, .c, .z, .n] s (shiftMem op f o s) :=
  ⟨_, shiftMem_eq op o s f, by simp [changesAtMost_iff]⟩
theorem incMem_writes : Writes [.mem, .z, .n] s (incMem op o s) := ⟨_, incMem_eq op o s, by simp [changesAtMost_iff]⟩
theorem decMem_writes : Writes [.mem, .z, .n] s (decMem op o s) := ⟨_, decMem_eq op o s, by simp [changesAtMost_iff]⟩
theorem jump_writes : Writes [.pc] s (jump op o s) := ⟨_, jump_eq op o s, by simp [changesAtMost_iff]⟩
end

theorem shiftA_writes (op : Byte) (f : Byte → Bool → Byte × Bool) (s : State) :
    Writes [.a, .c, .z, .n] s (shiftA op f s) := ⟨_, shiftA_eq op f s, by simp [changesAtMost_iff]⟩

theorem branch_writes (op : Byte) (cond : Bool) (rel : Byte) (s : State) : Writes [.pc] s (branch op cond rel s) :=
  ⟨_, branch_eq op cond rel s, by simp [changesAtMost_iff]⟩

theorem execIll_writes (opcode : Byte) (s : State) : Writes [.pc] s (execIll opcode s) :=
  ⟨_, execIll_eq opcode s, by simp [changesAtMost_iff]⟩

theorem push8_changes (v : Byte) (s : State) : ChangesAtMost [.sp, .mem] s (push8 v s) := by simp [changesAtMost_iff]

theorem pullA_changes (s : State) : ChangesAtMost [.a, .sp, .z, .n] s (pullA s) := by simp [pullA, changesAtMost_iff]

theorem pullP_changes (s : State) : ChangesAtMost [.sp, .c, .z, .n, .i, .d, .b, .v] s (pullP s) := by
  simp [pullP, changesAtMost_iff]

theorem callSubroutine_changes (target : Word) (s : State) :
    ChangesAtMost [.sp, .pc, .mem] s (callSubroutine target s) := by
  simp [callSubroutine_eq, changesAtMost_iff]

theorem returnFromSubroutine_changes (s : State) : ChangesAtMost [.sp, .pc] s (returnFromSubroutine s) := by
  simp [returnFromSubroutine_eq, pull16, changesAtMost_iff]

theorem softwareInterrupt_changes (s : State) : ChangesAtMost [.sp, .pc, .mem, .i, .b] s (softwareInterrupt s) := by
  simp [softwareInterrupt_eq, changesAtMost_iff]

theorem returnFromInterrupt_changes (s : State) :
    ChangesAtMost [.sp, .pc, .c, .z, .n, .i, .d, .b, .v] s (returnFromInterrupt s) := by
  simp [returnFromInterrupt_eq, pull16, changesAtMost_iff]

/-- Each instruction changes only elements that name its mnemonic as a writer: one case for each family, by what the
operation the family shares writes. -/
theorem exec_writes (i : Instr) (s : State) : WritesAs i.mnemonic s (exec i s) := by
  cases i with
  | ldaImm | ldaZp | ldaZpX | ldaAbs | ldaAbsX | ldaAbsY | ldaIndX | ldaIndY => exact (loadA_writes _ _ s).as
  | ldxImm | ldxZp | ldxZpY | ldxAbs | ldxAbsY => exact (loadX_writes _ _ s).as
  | ldyImm | ldyZp | ldyZpX | ldyAbs | ldyAbsX => exact (loadY_writes _ _ s).as
  | staZp | staZpX | staAbs | staAbsX | staAbsY | staIndX | staIndY | stxZp | stxZpY | stxAbs | styZp | styZpX | styAbs =>
    exact (store_writes _ _ s _).as
  | adcImm | adcZp | adcZpX | adcAbs | adcAbsX | adcAbsY | adcIndX | adcIndY => exact (adc_writes _ _ s).as
  | sbcImm | sbcZp | sbcZpX | sbcAbs | sbcAbsX | sbcAbsY | sbcIndX | sbcIndY => exact (sbc_writes _ _ s).as
  | cmpImm | cmpZp | cmpZpX | cmpAbs | cmpAbsX | cmpAbsY | cmpIndX | cmpIndY | cpxImm | cpxZp | cpxAbs | cpyImm | cpyZp
  | cpyAbs => exact (compareWith_writes _ _ s _).as
  | incZp | incZpX | incAbs | incAbsX => exact (incMem_writes _ _ s).as
  | decZp | decZpX | decAbs | decAbsX => exact (decMem_writes _ _ s).as
  | andImm | andZp | andZpX | andAbs | andAbsX | andAbsY | andIndX | andIndY => exact (andA_writes _ _ s).as
  | oraImm | oraZp | oraZpX | oraAbs | oraAbsX | oraAbsY | oraIndX | oraIndY => exact (oraA_writes _ _ s).as
  | eorImm | eorZp | eorZpX | eorAbs | eorAbsX | eorAbsY | eorIndX | eorIndY => exact (eorA_writes _ _ s).as
  | bitZp | bitAbs => exact (bitTest_writes _ _ s).as
  | aslA | lsrA | rolA | rorA => exact (shiftA_writes _ _ s).as
  | aslZp | aslZpX | aslAbs | aslAbsX | lsrZp | lsrZpX | lsrAbs | lsrAbsX | rolZp | rolZpX | rolAbs | rolAbsX | rorZp
  | rorZpX | rorAbs | rorAbsX => exact (shiftMem_writes _ _ s _).as
  | jmpAbs | jmpInd => exact (jump_writes _ _ s).as
  | bcc | bcs | beq | bne | bmi | bpl | bvc | bvs => exact (branch_writes _ _ _ s).as
  | tax | tsx | inx | dex => exact (retire_writes [.x, .z, .n] (by simp [changesAtMost_iff])).as
  | tay | iny | dey => exact (retire_writes [.y, .z, .n] (by simp [changesAtMost_iff])).as
  | txa | tya => exact (retire_writes [.a, .z, .n] (by simp [changesAtMost_iff])).as
  | txs => exact (retire_writes [.sp] (by simp [changesAtMost_iff])).as
  | clc | sec => exact (retire_writes [.c] (by simp [changesAtMost_iff])).as
  | cli | sei => exact (retire_writes [.i] (by simp [changesAtMost_iff])).as
  | cld | sed => exact (retire_writes [.d] (by simp [changesAtMost_iff])).as
  | clv => exact (retire_writes [.v] (by simp [changesAtMost_iff])).as
  | nop => exact (retire_writes [] (by simp [changesAtMost_iff])).as
  | pha | php => exact (retire_writes _ (push8_changes _ s)).as
  | pla => exact (retire_writes _ (pullA_changes s)).as
  | plp => exact (retire_writes _ (pullP_changes s)).as
  | jsrAbs target => exact (retire_writes _ (callSubroutine_changes target s)).as
  | rts => exact (retire_writes _ (returnFromSubroutine_changes s)).as
  | brk => exact (retire_writes _ (softwareInterrupt_changes s)).as
  | rti => exact (retire_writes _ (returnFromInterrupt_changes s)).as
  | ill opcode => exact (execIll_writes opcode s).as

/-- An element changes only by an instruction whose mnemonic it names. -/
theorem mnemonic_mem_writers (e : Element) {i : Instr} {s t : State} (h : exec i s = .next t) (hd : ¬ e.Same s t) :
    i.mnemonic ∈ e.writers := by
  obtain ⟨u, hu, hw⟩ := exec_writes i s
  obtain rfl : u = t := by simpa [hu] using h
  exact hw e hd

/-! ### Nothing reads the stored Break bit (R30) -/

/-- Both answers are next states, and the second differs from the first in the Break bit at most. -/
def AgreeButBreak (r r' : Result) : Prop := ∃ t c, r = .next t ∧ r' = .next (withBreak c t)

theorem branch_agreeButBreak (b : Bool) (op : Byte) (cond : Bool) (rel : Byte) (s : State) :
    AgreeButBreak (branch op cond rel s) (branch op cond rel (withBreak b s)) :=
  ⟨_, b, branch_eq op cond rel s, branch_eq op cond rel (withBreak b s)⟩

/-- No instruction reads the Break bit. BRK, RTI and PLP clear it; every other instruction leaves it as it is, and all
else that it computes is the same by its definition. -/
theorem exec_withBreak (b : Bool) (i : Instr) (s : State) : AgreeButBreak (exec i s) (exec i (withBreak b s)) := by
  cases i with
  | brk | rti | plp => exact ⟨_, false, rfl, rfl⟩
  | bcc | bcs | beq | bne | bmi | bpl | bvc | bvs => exact branch_agreeButBreak b _ _ _ s
  | _ => exact ⟨_, b, rfl, rfl⟩

/-- Nor does fetching: the opcode byte and PC decide what is read. -/
theorem fetch_withBreak (b : Bool) (s : State) : fetch (withBreak b s) = ((fetch s).1, withBreak b (fetch s).2) := by
  have opcode_eq : (fetchByte (withBreak b s)).1 = (fetchByte s).1 := rfl
  simp only [fetch, opcode_eq]
  split <;> rfl

/-- Nor does the interrupt controller: which interrupt is due hangs on the latches and I, and an entry clears the bit. -/
theorem serviceInterrupts_withBreak (b : Bool) (s : State) :
    ∃ c, serviceInterrupts (withBreak b s) = withBreak c (serviceInterrupts s) := by
  have due_eq : dueInterrupt (withBreak b s) = dueInterrupt s := rfl
  simp only [serviceInterrupts, due_eq]
  cases dueInterrupt s with
  | none => exact ⟨b, rfl⟩
  | some k => exact ⟨false, by cases k <;> rfl⟩

/-- A step from a Running machine: servicing, fetching and executing each carry the Break bit along unread (R240). -/
theorem step_withBreak (b : Bool) {s : State} (hr : s.runState = .running) :
    AgreeButBreak (step s) (step (withBreak b s)) := by
  obtain ⟨c, hc⟩ := serviceInterrupts_withBreak b (clearOutputs s)
  have cleared : clearOutputs (withBreak b s) = withBreak b (clearOutputs s) := rfl
  have hrb : (withBreak b s).runState = .running := hr
  rw [step_running hr, step_running hrb, cleared, hc, fetch_withBreak]
  exact exec_withBreak c _ _

/-! ### The statements -/

/-- Settles O26: the pull answers the byte at the place the push wrote (R27, R28), and a pull writes no memory. -/
theorem pullUndoesPush : Obligations.PullUndoesPush := by
  rintro v s ⟨hmem, -⟩ hplain
  rw [pushAt_one] at hplain
  exact ⟨pull8_push8_value hmem hplain v, by simp, rfl⟩

/-- Settles O39: servicing leaves the latches so (R235, R240), and neither fetch nor the instruction touches one. -/
theorem latchesClearOnlyWhenServiced : Obligations.LatchesClearOnlyWhenServiced := by
  intro s t e
  cases hr : s.runState with
  | halted => simp [step_halted hr] at e
  | running =>
    rw [step_running hr] at e
    obtain ⟨u, hu, nmi_eq, irq_eq, -⟩ := exec_completes (fetch (serviceInterrupts (clearOutputs s))).1
      (fetch (serviceInterrupts (clearOutputs s))).2
    obtain rfl : u = t := by simpa [hu] using e
    simpa [nmi_eq, irq_eq] using serviceInterrupts_latches (clearOutputs s)

/-- Settles O52: each flag is an `Element` (Z and N with one list), and an element changes only by its writers (R29). -/
theorem flagsChangeOnlyByTheirWriters : Obligations.FlagsChangeOnlyByTheirWriters := fun _ _ _ h =>
  ⟨mnemonic_mem_writers .c h, fun hzn => hzn.elim (mnemonic_mem_writers .z h) (mnemonic_mem_writers .n h),
    mnemonic_mem_writers .i h, mnemonic_mem_writers .d h, mnemonic_mem_writers .b h, mnemonic_mem_writers .v h⟩

/-- Settles O53: A, X, Y, SP, PC and memory are `Element`s too, and change only by their writers (R21 to R24, R53). -/
theorem registersChangeOnlyByTheirWriters : Obligations.RegistersChangeOnlyByTheirWriters := fun _ _ _ h =>
  ⟨mnemonic_mem_writers .a h, mnemonic_mem_writers .x h, mnemonic_mem_writers .y h, mnemonic_mem_writers .sp h,
    mnemonic_mem_writers .pc h, mnemonic_mem_writers .mem h⟩

/-- Settles O54: a step that answers a next state is a Running machine's, and what it answers agrees but for the bit. -/
theorem nothingReadsTheStoredBreak : Obligations.NothingReadsTheStoredBreak := by
  intro s t b e
  cases hr : s.runState with
  | halted => simp [step_halted hr] at e
  | running =>
    obtain ⟨u, c, hu, hub⟩ := step_withBreak b hr
    obtain rfl : u = t := by simpa [hu] using e
    exact ⟨withBreak c u, hub, rfl⟩

/-- Settles O5: bit `k` of P's byte is the flag R25 puts there. -/
theorem statusByteLayout : Obligations.StatusByteLayout := by
  intro p
  simp only [Status.getLsbD_toByte]
  simp

/-- Settles O56: a step starts by clearing both outputs, so their old values are gone (R36, R240). -/
theorem outputsAreNotCarried : Obligations.OutputsAreNotCarried := by
  intro s n es
  have cleared : clearOutputs { s with elapsed := n, bus := es } = clearOutputs s := rfl
  simp only [step, cleared]

end Sys2Proof.Machine

/-! PROOFS. Memory and the bus (R50 to R63): what one write changes, what the bus answers, that a store is seen by the
next fetch, that a step keeps memory canonical, and that its bus events account for all it does to memory. -/

namespace Sys2Proof.Machine

open Sys2Proof.Claims (answer MemoryAfter Replays)

/-! ### One write (R50, R61) -/

/-- After a write a canonical memory reads as the value written at its address, and as before at every other. -/
theorem Memory.read_write {m : Memory} (h : m.wf = true) (a : Word) (v : Byte) (b : Word) :
    (m.write a.toNat v).read b.toNat = if b = a then v else m.read b.toNat := by
  split
  next e => rw [e, Memory.read_write_same h]
  next e => exact Memory.read_write_other m _ v _ fun hn => e (BitVec.eq_of_toNat_eq hn)

/-- The 65536 addresses decide a canonical memory: it lists nothing beyond them. -/
theorem Memory.ext_of_read {m m' : Memory} (h : m.wf = true) (h' : m'.wf = true)
    (e : ∀ a : Word, m.read a.toNat = m'.read a.toNat) : m = m' := by
  refine Memory.ext_of_readFrom h h' fun k => ?_
  rcases Nat.lt_or_ge k 65536 with hk | hk
  · simpa [Nat.mod_eq_of_lt hk] using e (BitVec.ofNat 16 k)
  · rw [Memory.read_above h hk, Memory.read_above h' hk]

/-- The condition of the claims' `written`, on the address read, is the model's, on the address written. -/
theorem eq_and_isPlain_iff (s : State) (a b : Word) :
    (b = a ∧ s.isPlain b = true) ↔ (b = a ∧ s.isPlain a = true) := by
  constructor <;> rintro ⟨rfl, h⟩ <;> exact ⟨rfl, h⟩

/-- The model's memory after a write is the claims'. -/
theorem memoryAfter_memAfterWrite {s : State} (h : s.mem.wf = true) (addr : Word) (v : Byte) :
    MemoryAfter s [(addr, v)] (s.memAfterWrite addr v) := by
  refine ⟨memAfterWrite_wf h addr v, fun b => ?_⟩
  simp only [Claims.written, eq_and_isPlain_iff]
  exact read_memAfterWrite h addr v b

/-- The claims' `answer` is what the model's bus answers to that event (R52). -/
theorem answer_eq_answerAt (s : State) (k : Nat) (addr : Word) :
    answer s k addr = s.answerAt (s.portEvents + k) addr := rfl

/-- Where the bus is not plain memory, a write is its event and nothing else (R52). -/
theorem write8_of_not_plain {s : State} {addr : Word} (h : s.isPlain addr = false) (v : Byte) :
    write8 addr v s = s.logEvent (.write addr v) := by
  simp [write8, State.memAfterWrite, h]

/-! ### Bus events that account for what happened (R57, R60, R61) -/

/-- Two replays one after the other are one replay of all the events. -/
theorem replays_append {plain : Word → Bool} {n : Nat} {f g h : Word → Byte} {es fs : List BusEvent}
    (he : Replays plain n f es g) (hf : Replays plain (n + es.length) g fs h) : Replays plain n f (es ++ fs) h := by
  induction es generalizing n f with
  | nil =>
    obtain rfl : g = f := funext he
    exact hf
  | cons e es ih =>
    rw [List.length_cons, Nat.add_comm es.length, ← Nat.add_assoc] at hf
    cases e with
    | read a v => exact ⟨he.1, ih he.2 hf⟩
    | write a v => exact ih he hf

/-- The way from `s` to `t` logs events that account for it: replayed from the bytes of `s` they give those of `t`, and
the count of events goes on by theirs. The address map stays, and memory stays canonical, so that the next events replay
too. -/
def Replayed (s t : State) : Prop :=
  s.mem.wf = true →
    ∃ es, Replays s.isPlain s.portEvents s.byteAt es t.byteAt ∧ t.bus = s.bus ++ es ∧
      t.portEvents = s.portEvents + es.length ∧ t.addressMap = s.addressMap ∧ t.mem.wf = true

theorem Replayed.refl (s : State) : Replayed s s := fun h => ⟨[], fun _ => rfl, by simp, rfl, rfl, h⟩

theorem Replayed.trans {s t u : State} (hst : Replayed s t) (htu : Replayed t u) : Replayed s u := by
  intro h
  obtain ⟨es, replay, bus, count, map, wf⟩ := hst h
  obtain ⟨fs, replay', bus', count', map', wf'⟩ := htu wf
  have plain_eq : t.isPlain = s.isPlain := by
    funext a
    simp [State.isPlain, map]
  rw [plain_eq, count] at replay'
  exact ⟨es ++ fs, replays_append replay replay', by simp [bus', bus],
    by simp [count', count, Nat.add_assoc], map'.trans map, wf'⟩

section
variable {s t : State} (h : Replayed s t)
include h

theorem Replayed.then_read8 (addr : Word) : Replayed s (read8 addr t).2 :=
  h.trans fun wf => ⟨[.read addr (t.answerAt t.portEvents addr)], ⟨rfl, fun _ => rfl⟩, rfl, rfl, rfl, wf⟩

theorem Replayed.then_write8 (addr : Word) (v : Byte) : Replayed s (write8 addr v t) := by
  refine h.trans fun wf => ⟨[.write addr v], fun b => ?_, rfl, rfl, rfl, write8_wf wf addr v⟩
  simp only [byteAt_write8 wf, eq_and_isPlain_iff]

/-! Beside the accesses `Replayed` looks at memory, the map and the two records of events alone, so any other update
leaves it as it is. -/

theorem Replayed.then_setA (v : Byte) : Replayed s (t.setA v) := h
theorem Replayed.then_setSp (v : Byte) : Replayed s (t.setSp v) := h
theorem Replayed.then_setPc (v : Word) : Replayed s (t.setPc v) := h
theorem Replayed.then_setP (q : Status) : Replayed s (t.setP q) := h
theorem Replayed.then_setZN (v : Byte) : Replayed s (t.setZN v) := h
theorem Replayed.then_addCycles (n : Nat) : Replayed s (t.addCycles n) := h
end

section
variable {s t : State} (h : Replayed s t)
include h

theorem Replayed.then_read16At (addr hiAddr : Word) : Replayed s (read16At addr hiAddr t).2 :=
  (h.then_read8 addr).then_read8 hiAddr

theorem Replayed.then_push8 (v : Byte) : Replayed s (push8 v t) := (h.then_write8 _ v).then_setSp _

theorem Replayed.then_push16 (v : Word) : Replayed s (push16 v t) := (h.then_push8 _).then_push8 _

theorem Replayed.then_pull8 : Replayed s (pull8 t).2 := (h.then_read8 _).then_setSp _

theorem Replayed.then_pull16 : Replayed s (pull16 t).2 := h.then_pull8.then_pull8
end

/-! ### The bus events of an instruction (R60) -/

theorem resolve_replayed (o : MemOperand) (s : State) : Replayed s (resolve o s).after := by
  cases o with
  | zeroPage | zeroPageX | zeroPageY | absolute | absoluteX | absoluteY => exact Replayed.refl s
  | indirect | indirectX | indirectY => exact (Replayed.refl s).then_read16At _ _

theorem readOperand_replayed (o : ReadOperand) (s : State) : Replayed s (readOperand o s).after := by
  cases o with
  | immediate v => exact Replayed.refl s
  | memory m => exact (resolve_replayed m s).then_read8 _

theorem Replayed.then_interruptEntry {s t : State} (h : Replayed s t) (vector : Word) (b : Bool) :
    Replayed s (interruptEntry vector b t) :=
  ((((h.then_push16 t.pc).then_push8 _).then_setP _).then_read16At vector (vector + 1)).then_setPc _

theorem softwareInterrupt_replayed (s : State) : Replayed s (softwareInterrupt s) :=
  ((Replayed.refl s).then_setPc _).then_interruptEntry irqVector true

theorem callSubroutine_replayed (target : Word) (s : State) : Replayed s (callSubroutine target s) :=
  ((Replayed.refl s).then_push16 _).then_setPc target

theorem returnFromSubroutine_replayed (s : State) : Replayed s (returnFromSubroutine s) :=
  (Replayed.refl s).then_pull16.then_setPc _

theorem returnFromInterrupt_replayed (s : State) : Replayed s (returnFromInterrupt s) :=
  (((Replayed.refl s).then_pull8.then_setP _).then_pull16).then_setPc _

theorem pullA_replayed (s : State) : Replayed s (pullA s) := ((Replayed.refl s).then_pull8.then_setA _).then_setZN _

theorem pullP_replayed (s : State) : Replayed s (pullP s) := (Replayed.refl s).then_pull8.then_setP _

/-- The answer is a next state whose bus events account for it. -/
def AnswersReplayed (s : State) (r : Result) : Prop := ∃ t, r = .next t ∧ Replayed s t

theorem Replayed.then_retire {s t : State} (h : Replayed s t) (op : Byte) (crossed : Bool) (extra : Nat) :
    AnswersReplayed s (retire op crossed extra t) := ⟨_, retire_eq op crossed extra t, h.then_addCycles _⟩

section
variable (op : Byte) (o : ReadOperand) (s : State)
theorem loadA_replayed : AnswersReplayed s (loadA op o s) := ⟨_, loadA_eq op o s, readOperand_replayed o s⟩
theorem loadX_replayed : AnswersReplayed s (loadX op o s) := ⟨_, loadX_eq op o s, readOperand_replayed o s⟩
theorem loadY_replayed : AnswersReplayed s (loadY op o s) := ⟨_, loadY_eq op o s, readOperand_replayed o s⟩
theorem adc_replayed : AnswersReplayed s (adc op o s) := ⟨_, adc_eq op o s, readOperand_replayed o s⟩
theorem sbc_replayed : AnswersReplayed s (sbc op o s) := ⟨_, sbc_eq op o s, readOperand_replayed o s⟩
theorem compareWith_replayed (reg : Byte) : AnswersReplayed s (compareWith op reg o s) :=
  ⟨_, compareWith_eq op o s reg, readOperand_replayed o s⟩
theorem andA_replayed : AnswersReplayed s (andA op o s) := ⟨_, andA_eq op o s, readOperand_replayed o s⟩
theorem oraA_replayed : AnswersReplayed s (oraA op o s) := ⟨_, oraA_eq op o s, readOperand_replayed o s⟩
theorem eorA_replayed : AnswersReplayed s (eorA op o s) := ⟨_, eorA_eq op o s, readOperand_replayed o s⟩
end

section
variable (op : Byte) (o : MemOperand) (s : State)
theorem bitTest_replayed : AnswersReplayed s (bitTest op o s) :=
  ⟨_, bitTest_eq op o s, readOperand_replayed (.memory o) s⟩
theorem store_replayed (v : Byte) : AnswersReplayed s (store op v o s) :=
  ((resolve_replayed o s).then_write8 _ v).then_retire op _ _
theorem shiftMem_replayed (f : Byte → Bool → Byte × Bool) : AnswersReplayed s (shiftMem op f o s) :=
  ((((resolve_replayed o s).then_read8 _).then_write8 _ _).then_setP _).then_retire op _ _
theorem incMem_replayed : AnswersReplayed s (incMem op o s) :=
  ((((resolve_replayed o s).then_read8 _).then_write8 _ _).then_setZN _).then_retire op _ _
theorem decMem_replayed : AnswersReplayed s (decMem op o s) :=
  ((((resolve_replayed o s).then_read8 _).then_write8 _ _).then_setZN _).then_retire op _ _
theorem jump_replayed : AnswersReplayed s (jump op o s) := ⟨_, jump_eq op o s, resolve_replayed o s⟩
end

theorem shiftA_replayed (op : Byte) (f : Byte → Bool → Byte × Bool) (s : State) : AnswersReplayed s (shiftA op f s) :=
  ⟨_, shiftA_eq op f s, Replayed.refl s⟩

theorem branch_replayed (op : Byte) (cond : Bool) (rel : Byte) (s : State) : AnswersReplayed s (branch op cond rel s) :=
  ⟨_, branch_eq op cond rel s, Replayed.refl s⟩

theorem execIll_replayed (opcode : Byte) (s : State) : AnswersReplayed s (execIll opcode s) :=
  ⟨_, execIll_eq opcode s, Replayed.refl s⟩

/-- The bus events of every instruction account for it: one case for each family, by what the operation the family
shares reads and writes. -/
theorem exec_replayed (i : Instr) (s : State) : AnswersReplayed s (exec i s) := by
  cases i with
  | ldaImm | ldaZp | ldaZpX | ldaAbs | ldaAbsX | ldaAbsY | ldaIndX | ldaIndY => exact loadA_replayed _ _ s
  | ldxImm | ldxZp | ldxZpY | ldxAbs | ldxAbsY => exact loadX_replayed _ _ s
  | ldyImm | ldyZp | ldyZpX | ldyAbs | ldyAbsX => exact loadY_replayed _ _ s
  | staZp | staZpX | staAbs | staAbsX | staAbsY | staIndX | staIndY | stxZp | stxZpY | stxAbs | styZp | styZpX | styAbs =>
    exact store_replayed _ _ s _
  | adcImm | adcZp | adcZpX | adcAbs | adcAbsX | adcAbsY | adcIndX | adcIndY => exact adc_replayed _ _ s
  | sbcImm | sbcZp | sbcZpX | sbcAbs | sbcAbsX | sbcAbsY | sbcIndX | sbcIndY => exact sbc_replayed _ _ s
  | cmpImm | cmpZp | cmpZpX | cmpAbs | cmpAbsX | cmpAbsY | cmpIndX | cmpIndY | cpxImm | cpxZp | cpxAbs | cpyImm | cpyZp
  | cpyAbs => exact compareWith_replayed _ _ s _
  | incZp | incZpX | incAbs | incAbsX => exact incMem_replayed _ _ s
  | decZp | decZpX | decAbs | decAbsX => exact decMem_replayed _ _ s
  | andImm | andZp | andZpX | andAbs | andAbsX | andAbsY | andIndX | andIndY => exact andA_replayed _ _ s
  | oraImm | oraZp | oraZpX | oraAbs | oraAbsX | oraAbsY | oraIndX | oraIndY => exact oraA_replayed _ _ s
  | eorImm | eorZp | eorZpX | eorAbs | eorAbsX | eorAbsY | eorIndX | eorIndY => exact eorA_replayed _ _ s
  | bitZp | bitAbs => exact bitTest_replayed _ _ s
  | aslA | lsrA | rolA | rorA => exact shiftA_replayed _ _ s
  | aslZp | aslZpX | aslAbs | aslAbsX | lsrZp | lsrZpX | lsrAbs | lsrAbsX | rolZp | rolZpX | rolAbs | rolAbsX | rorZp
  | rorZpX | rorAbs | rorAbsX => exact shiftMem_replayed _ _ s _
  | jmpAbs | jmpInd => exact jump_replayed _ _ s
  | bcc | bcs | beq | bne | bmi | bpl | bvc | bvs => exact branch_replayed _ _ _ s
  | pha | php => exact ((Replayed.refl s).then_push8 _).then_retire _ _ _
  | pla => exact (pullA_replayed s).then_retire _ _ _
  | plp => exact (pullP_replayed s).then_retire _ _ _
  | jsrAbs target => exact (callSubroutine_replayed target s).then_retire _ _ _
  | rts => exact (returnFromSubroutine_replayed s).then_retire _ _ _
  | brk => exact (softwareInterrupt_replayed s).then_retire _ _ _
  | rti => exact (returnFromInterrupt_replayed s).then_retire _ _ _
  | tax | tay | txa | tya | txs | tsx | inx | iny | dex | dey | clc | sec | cli | sei | clv | cld | sed | nop =>
    apply Replayed.then_retire
    exact Replayed.refl s
  | ill opcode => exact execIll_replayed opcode s

/-! ### The bus events of a step (R240) -/

theorem Replayed.then_fetchByte {s t : State} (h : Replayed s t) : Replayed s (fetchByte t).2 :=
  (h.then_read8 _).then_setPc _

/-- A fetch reads the opcode byte and then none, one or two operand bytes (R82). -/
theorem fetch_replayed (s : State) : Replayed s (fetch s).2 := by
  have opcode := (Replayed.refl s).then_fetchByte
  dsimp only [fetch]
  split
  · exact opcode
  · exact opcode.then_fetchByte
  · exact opcode.then_fetchByte.then_fetchByte

theorem clearLatch_replayed (k : InterruptKind) (s : State) : Replayed s (clearLatch k s) := by
  cases k <;> exact Replayed.refl s

theorem service_replayed (k : InterruptKind) (s : State) : Replayed s (service k s) :=
  ((clearLatch_replayed k s).then_interruptEntry _ _).then_addCycles _

theorem serviceInterrupts_replayed (s : State) : Replayed s (serviceInterrupts s) := by
  rcases serviceInterrupts_cases s with ⟨-, e⟩ | ⟨-, -, -, e⟩ | ⟨-, -, e⟩ <;> rw [e]
  · exact service_replayed .nmi s
  · exact service_replayed .irq s
  · exact Replayed.refl s

/-- From the cleared outputs on, a step is servicing, fetching and executing: the events of each account for it. -/
theorem step_replayed {s t : State} (e : step s = .next t) : Replayed (clearOutputs s) t := by
  cases hr : s.runState with
  | halted => simp [step_halted hr] at e
  | running =>
    rw [step_running hr] at e
    obtain ⟨u, hu, executed⟩ := exec_replayed (fetch (serviceInterrupts (clearOutputs s))).1
      (fetch (serviceInterrupts (clearOutputs s))).2
    obtain rfl : u = t := by simpa [hu] using e
    exact ((serviceInterrupts_replayed _).trans (fetch_replayed _)).trans executed

/-! ### The statements -/

/-- Settles O51: a step's events are those logged since it cleared the outputs, and they account for it. -/
theorem busEventsReplayEveryStep : Obligations.BusEventsReplayEveryStep := by
  rintro s t ⟨hmem, -⟩ e
  obtain ⟨es, replay, bus, count, map, -⟩ := step_replayed e hmem
  obtain rfl : t.bus = es := by simpa using bus
  exact ⟨replay, count, map⟩

/-- Settles O48: servicing, fetching and executing each keep the invariant (`step_inv`). -/
theorem invKeptByEveryStep : Obligations.InvKeptByEveryStep :=
  fun _ _ h e => step_inv h e

/-- Settles O6: the read after a write, the canonical form of what it leaves, and extensionality. -/
theorem writeChangesOneByte : Obligations.WriteChangesOneByte :=
  ⟨fun _ a v h => ⟨Memory.wf_write h a v, Memory.read_write h a v⟩, fun _ _ h h' e => Memory.ext_of_read h h' e⟩

/-- Settles O7: a read is the bus's answer and its event by definition; the memory after a write is `memAfterWrite`. -/
theorem busAnswersEveryAccess : Obligations.BusAnswersEveryAccess := by
  intro addr v s
  refine ⟨rfl, fun hp => write8_of_not_plain hp v, ?_, ?_⟩
  · rintro ⟨hmem, -⟩
    exact ⟨s.memAfterWrite addr v, memoryAfter_memAfterWrite hmem addr v, rfl⟩
  · rintro ⟨hmem, -⟩ hp k
    rw [answer_eq_answerAt, answerAt_write8 hmem, if_pos ⟨rfl, hp⟩]

/-- Settles O46: STA absolute is one write at PC, and the fetch that follows reads there (R61, R63). -/
theorem storeIsSeenByTheNextFetch : Obligations.StoreIsSeenByTheNextFetch := by
  rintro s ⟨hmem, -⟩ hp
  refine ⟨(write8 s.pc s.a s).addCycles (instrCycles s.cfg 0x8D false 0), rfl, rfl, ?_⟩
  simp [answerAt_write8 hmem, hp]

end Sys2Proof.Machine

/-! PROOFS. The encoding (R80 to R92): what `instrOf` gives, that decoding and encoding undo each other, which bytes the
decoder takes, the fallback Operation of an illegal opcode, and that a step runs what the bytes at PC decode to. -/

namespace Sys2Proof.Machine

open Sys2Proof.Claims (answer readOf afterEvents)
open Sys2Proof.Laws.EncodeLength (operandWidth_of_isIllegal)

/-! ### The opcode table (R81, R84, R91) -/

/-- No mode has more than two operand bytes (R81). -/
theorem operandWidth_le_two (op : Byte) : operandWidth op ≤ 2 := by
  unfold operandWidth
  cases modeOf op <;> decide

/-- Whatever the operand bytes are, each opcode byte gives an instruction that is well formed: the check evaluates for
all 256 of them with the operand bytes left free. -/
theorem wellFormed_instrOf (b1 b2 : Byte) : ∀ op : Byte, (instrOf op b1 b2).wellFormed = true :=
  of_decide_eq_true rfl

/-- Every value of R91's list gives the fallback Operation, whatever bytes come after it (R90). -/
theorem instrOf_of_isIllegal {op : Byte} (h : isIllegal op = true) (b1 b2 : Byte) : instrOf op b1 b2 = .ill op := by
  have rows_eq : illegalOpcodes.map (instrOf · b1 b2) = illegalOpcodes.map .ill := rfl
  exact List.map_inj_left.1 rows_eq op (by simpa [isIllegal] using h)

/-- The instruction of an opcode byte is encoded as that byte and as many of the operand bytes as its mode has: one case
for each row of the table, and case 152 for its default, where the byte is illegal because `ill` is well formed. -/
theorem encode_instrOf (op b1 b2 : Byte) : encode (instrOf op b1 b2) = op :: [b1, b2].take (operandWidth op) := by
  have wf := wellFormed_instrOf b1 b2 op
  revert wf
  fun_cases instrOf op b1 b2
  case case152 =>
    intro illegal
    rw [operandWidth_of_isIllegal op illegal]
    rfl
  all_goals
    intro _
    simp only [encode, lo8_join, hi8_join]
    rfl

/-- An opcode byte gives a fallback Operation exactly when it is illegal (R91, R92). -/
theorem instrOf_eq_ill_iff (op b1 b2 : Byte) : (∃ o, instrOf op b1 b2 = .ill o) ↔ isIllegal op = true := by
  constructor
  · rintro ⟨o, e⟩
    have wf := wellFormed_instrOf b1 b2 op
    have bytes_eq := encode_instrOf op b1 b2
    rw [e] at wf bytes_eq
    obtain rfl : o = op := (List.cons.inj bytes_eq).1
    exact wf
  · exact fun h => ⟨op, instrOf_of_isIllegal h b1 b2⟩

/-- A well-formed instruction is the one its own bytes name. A 16-bit operand is its two bytes joined again; an illegal
one is of R91's list. -/
theorem instrOf_encode {i : Instr} (h : i.wellFormed = true) :
    instrOf ((encode i).getD 0 0) ((encode i).getD 1 0) ((encode i).getD 2 0) = i := by
  cases i with
  | ill op => exact instrOf_of_isIllegal h 0 0
  | ldaAbs | ldaAbsX | ldaAbsY | ldxAbs | ldxAbsY | ldyAbs | ldyAbsX | staAbs | staAbsX | staAbsY | stxAbs | styAbs
  | adcAbs | adcAbsX | adcAbsY | sbcAbs | sbcAbsX | sbcAbsY | cmpAbs | cmpAbsX | cmpAbsY | cpxAbs | cpyAbs | incAbs
  | incAbsX | decAbs | decAbsX | andAbs | andAbsX | andAbsY | oraAbs | oraAbsX | oraAbsY | eorAbs | eorAbsX | eorAbsY
  | bitAbs | aslAbs | aslAbsX | lsrAbs | lsrAbsX | rolAbs | rolAbsX | rorAbs | rorAbsX | jmpAbs | jmpInd | jsrAbs =>
    exact congrArg _ (join_hi8_lo8 _)
  | _ => rfl

/-- The encoding of every well-formed instruction is an opcode byte and the operand bytes its mode has (R80, R81). -/
theorem encode_eq_cons (i : Instr) : Laws.EncodeLength.Statement i := by
  cases i with
  | ill op => exact Laws.EncodeLength.ill op
  | _ => exact fun _ => ⟨_, _, rfl, rfl⟩

/-! ### The decoder (R81 to R84; logs 7, 8) -/

/-- An opcode byte, the operand bytes of its mode and any bytes after them decode: the operand bytes that are not there
count as 0. -/
theorem decode_operands {op : Byte} {operands : List Byte} (h : operands.length = operandWidth op) (rest : List Byte) :
    decode (op :: operands ++ rest) = .ok (instrOf op (operands.getD 0 0) (operands.getD 1 0), rest) := by
  have bound := operandWidth_le_two op
  match operands with
  | [] | [_] | [_, _] => simp [decode, ← h]
  | _ :: _ :: _ :: _ => simp [← h] at bound

/-- Only such bytes decode. -/
theorem exists_operands_of_decode {bytes rest : List Byte} {i : Instr} (h : decode bytes = .ok (i, rest)) :
    ∃ (op : Byte) (operands : List Byte), operands.length = operandWidth op ∧ bytes = op :: operands ++ rest ∧
      i = instrOf op (operands.getD 0 0) (operands.getD 1 0) := by
  cases bytes with
  | nil => cases h
  | cons op tail =>
    simp only [decode] at h
    split at h
    next w =>
      cases h
      exact ⟨op, [], w.symm, rfl, rfl⟩
    next w =>
      cases h
      exact ⟨op, [_], w.symm, rfl, rfl⟩
    next w =>
      cases h
      exact ⟨op, [_, _], w.symm, rfl, rfl⟩
    next => cases h

/-- What `decode_operands` gives is encoded as the bytes it was read from. -/
theorem encode_instrOf_operands {op : Byte} {operands : List Byte} (h : operands.length = operandWidth op) :
    encode (instrOf op (operands.getD 0 0) (operands.getD 1 0)) = op :: operands := by
  have bound := operandWidth_le_two op
  rw [encode_instrOf, ← h]
  match operands with
  | [] | [_] | [_, _] => rfl
  | _ :: _ :: _ :: _ => simp [← h] at bound

/-! ### Fetching what the bytes at PC decode to (R82, R101) -/

/-- `s` after `n` bytes are fetched from PC on: their reads on the port, PC past them, and nothing else. -/
def afterFetch (s : State) (n : Nat) : State :=
  { afterEvents ((List.range n).map fun k => readOf s k (s.pc + BitVec.ofNat 16 k)) s with
    pc := s.pc + BitVec.ofNat 16 n }

theorem afterFetch_zero (s : State) : afterFetch s 0 = s := by simp [afterFetch, afterEvents]

/-- The next byte fetched is the bus's answer at the next address. -/
theorem fetchByte_afterFetch (s : State) (n : Nat) :
    fetchByte (afterFetch s n) = (answer s n (s.pc + BitVec.ofNat 16 n), afterFetch s (n + 1)) := by
  have answered : (afterFetch s n).answerAt (afterFetch s n).portEvents (afterFetch s n).pc =
      answer s n (s.pc + BitVec.ofNat 16 n) := by
    simp only [afterFetch, afterEvents, answer_eq_answerAt, List.length_map, List.length_range]
    rfl
  rw [fetchByte_eq, answered]
  simp [afterFetch, afterEvents, State.ext_iff, List.range_succ, readOf, BitVec.ofNat_add, BitVec.add_assoc,
    Nat.add_assoc]

/-- A fetch reads exactly the bytes of the instruction that the bytes at PC decode to. -/
theorem fetch_of_decode {s : State} {i : Instr} {rest : List Byte}
    (h : decode [answer s 0 s.pc, answer s 1 (s.pc + 1), answer s 2 (s.pc + 2)] = .ok (i, rest)) :
    fetch s = (i, afterFetch s (encode i).length) := by
  have opcode : fetchByte s = (answer s 0 s.pc, afterFetch s 1) := by
    simpa [afterFetch_zero] using fetchByte_afterFetch s 0
  have first : fetchByte (afterFetch s 1) = (answer s 1 (s.pc + 1), afterFetch s 2) := fetchByte_afterFetch s 1
  have second : fetchByte (afterFetch s 2) = (answer s 2 (s.pc + 2), afterFetch s 3) := fetchByte_afterFetch s 2
  obtain ⟨op, operands, width, bytes_eq, rfl⟩ := exists_operands_of_decode h
  rw [encode_instrOf_operands width]
  obtain ⟨rfl, operands_eq⟩ := List.cons.inj bytes_eq
  simp only [fetch, opcode, first, second, ← width]
  match operands with
  | [] => rfl
  | [_] | [_, _] =>
    cases operands_eq
    rfl
  | _ :: _ :: _ :: _ => simp at operands_eq

/-- With no NMI latched and no unmasked IRQ, nothing is serviced (R234, R240). -/
theorem serviceInterrupts_of_none_due {s : State} (nmi : s.pendingNmi = false)
    (irq : s.pendingIrq = false ∨ s.p.i = true) : serviceInterrupts s = s := by
  have none_due : dueInterrupt s = none := by rcases irq with latch | mask <;> simp [dueInterrupt, *]
  simp [serviceInterrupts, none_due]

/-! ### The statements -/

/-- Settles O2: the bytes of a well-formed instruction are an opcode byte and its operand bytes, and name it again. -/
theorem decodeOfEncodeIsIdentity : Obligations.DecodeOfEncodeIsIdentity := by
  intro i rest wf
  obtain ⟨op, operands, bytes_eq, width⟩ := encode_eq_cons i wf
  have named := instrOf_encode wf
  rw [bytes_eq] at named ⊢
  rw [decode_operands width.symm]
  exact congrArg (fun j => Except.ok (j, rest)) named

/-- Settles O3: what decodes is an opcode byte with the operand bytes of its mode, and those are the encoding. -/
theorem encodeOfDecodeIsIdentity : Obligations.EncodeOfDecodeIsIdentity := by
  intro bytes rest i h
  obtain ⟨op, operands, width, rfl, rfl⟩ := exists_operands_of_decode h
  exact ⟨wellFormed_instrOf _ _ op, by rw [encode_instrOf_operands width]⟩

/-- Settles O4: two bytes are operand bytes enough for every mode, and the rows that give `ill` are the illegal ones. -/
theorem everyOpcodeByteDecodes : Obligations.EveryOpcodeByteDecodes := by
  intro op b1 b2 rest
  have bound := operandWidth_le_two op
  have width : ((b1 :: b2 :: rest).take (operandWidth op)).length = operandWidth op := by
    simp
    omega
  have decoded := decode_operands width ((b1 :: b2 :: rest).drop (operandWidth op))
  rw [List.cons_append, List.take_append_drop] at decoded
  exact ⟨_, decoded, instrOf_eq_ill_iff op _ _⟩

/-- Settles O1: the decoder evaluated on each word. -/
theorem specWordsDecode : Obligations.SpecWordsDecode :=
  ⟨rfl, rfl, rfl, rfl, rfl, rfl, rfl, rfl, rfl, rfl, rfl, rfl, rfl⟩

/-- Settles O36: whichever illegal opcode it is, its meaning is `execIll`, which moves PC and counts cycles (R90). -/
theorem illegalOpcodeIsInert : Obligations.IllegalOpcodeIsInert := by
  intro op s _
  have skipped : BitVec.ofNat 16 (s.pc.toNat + s.cfg.illegalOperandBytes) =
      s.pc + BitVec.ofNat 16 s.cfg.illegalOperandBytes := by
    simp [BitVec.ofNat_add]
  rw [skipped]
  exact ⟨rfl, execIll_eq op s⟩

/-- Settles O37: `ExecuteOne` runs what it fetches, and with no interrupt due a step is that from cleared outputs, which
the bus's answers do not hang on (R82, R240). -/
theorem stepRunsTheDecodedInstruction : Obligations.StepRunsTheDecodedInstruction := by
  intro s i rest h
  refine ⟨?_, fun running nmi irq => ?_⟩
  · rw [executeOne, fetch_of_decode h]
    rfl
  · have serviced : serviceInterrupts (clearOutputs s) = clearOutputs s := serviceInterrupts_of_none_due nmi irq
    have fetched : fetch (clearOutputs s) = (i, afterFetch (clearOutputs s) (encode i).length) := fetch_of_decode h
    rw [step_running running, serviced, fetched]
    simp only [afterFetch, afterEvents, List.length_map, List.length_range]
    rfl

end Sys2Proof.Machine

/-! PROOFS. The addressing modes (R100 to R118): the model's bit-field helpers and reads are the arithmetic of the
claims, so resolving an operand gives its row of R118's table. -/

namespace Sys2Proof.Machine

open Sys2Proof.Claims (hiByte loByte word page0 answer readOf afterEvents plusIndex pointer0 nextInPage address crossed
  pointerReads)

/-! ### Byte order, page 0 and the index (R7, R9, R102, R110) -/

/-- The model's `w[15:8]` is the quotient by 256 (R7). -/
theorem hi8_eq_hiByte (w : Word) : hi8 w = hiByte w := by
  have := w.isLt
  apply BitVec.eq_of_toNat_eq
  rw [hi8_toNat, hiByte, BitVec.toNat_ofNat]
  omega

/-- The model's `w[7:0]` is the remainder by 256 (R7). -/
theorem lo8_eq_loByte (w : Word) : lo8 w = loByte w := by
  apply BitVec.eq_of_toNat_eq
  rw [lo8_toNat, loByte, BitVec.toNat_ofNat]
  omega

/-- A widened byte is the byte's place in page 0 (R9). -/
theorem zext16_eq_page0 (b : Byte) : zext16 b = page0 b := by
  apply BitVec.eq_of_toNat_eq
  rw [page0, word_eq_join, join_toNat, zext16_toNat]
  simp

/-- The model's sum of a base and a widened index is their sum mod 65536 (R110, R111). -/
theorem add_zext16_eq_plusIndex (base : Word) (index : Byte) : base + zext16 index = plusIndex base index := by
  apply BitVec.eq_of_toNat_eq
  rw [BitVec.toNat_add, zext16_toNat, plusIndex, BitVec.toNat_ofNat]

/-- R102's test compares the quotients by 256. -/
theorem pageCrossed_eq (base addr : Word) : pageCrossed base addr = decide (base.toNat / 256 ≠ addr.toNat / 256) := by
  rw [Bool.eq_iff_iff]
  simp [pageCrossed, ← BitVec.toNat_inj, hi8_toNat]

/-- An indexed address and its page-cross result, as the claims say them (R110, R111, R114). -/
theorem indexed_eq (base : Word) (index : Byte) (s : State) :
    indexed base index s =
      { addr := plusIndex base index
        crossed := decide (base.toNat / 256 ≠ (plusIndex base index).toNat / 256)
        after := s } := by
  rw [indexed, pageCrossed_eq, add_zext16_eq_plusIndex]

/-! ### Pointers (R112 to R114) -/

/-- The high byte of JMP (indirect)'s target is read where the claims say, with the page wrap and without (R112). -/
theorem indirectHighAddr_eq_nextInPage (c : Config) (ptr : Word) : indirectHighAddr c ptr = nextInPage c ptr := by
  cases wrap : c.jmpIndirectPageWrap with
  | true => simp [indirectHighAddr, nextInPage, wrap, word_eq_join, hi8_eq_hiByte, lo8_eq_loByte]
  | false => simp [indirectHighAddr, nextInPage, wrap, BitVec.ofNat_add]

/-- A 16-bit read gives the word of the bus's next two answers and adds these two reads, low byte first (R54). -/
theorem read16At_eq_word (loAddr hiAddr : Word) (s : State) :
    read16At loAddr hiAddr s =
      (word (answer s 1 hiAddr) (answer s 0 loAddr), afterEvents [readOf s 0 loAddr, readOf s 1 hiAddr] s) := by
  rw [word_eq_join, read16At_eq]
  simp [answer_eq_answerAt, readOf, afterEvents, State.logEvent]

/-- A pointer in page 0 is read as the claims say (R113, R114). -/
theorem zeroPagePointer_eq (p : Byte) (s : State) :
    zeroPagePointer p s =
      (pointer0 p s, afterEvents [readOf s 0 (page0 p), readOf s 1 (page0 (p + 1))] s) := by
  rw [zeroPagePointer, read16At_eq_word, zext16_eq_page0, zext16_eq_page0, pointer0]

theorem afterEvents_nil (s : State) : afterEvents [] s = s := by simp [afterEvents]

/-! ### The statement -/

/-- Settles O9: one case for each group of rows of R118's table: a byte in page 0, the operand itself, an indexed base,
and the three modes that read a pointer. -/
theorem resolveFollowsModeTable : Obligations.ResolveFollowsModeTable := by
  intro o s
  cases o with
  | zeroPage | zeroPageX | zeroPageY =>
    simp only [resolve, address, crossed, pointerReads, afterEvents_nil, zext16_eq_page0]
  | absolute => simp only [resolve, address, crossed, pointerReads, afterEvents_nil]
  | absoluteX | absoluteY => simp only [resolve, address, crossed, pointerReads, afterEvents_nil, indexed_eq]
  | indirect =>
    simp only [resolve, address, crossed, pointerReads, read16At_eq_word, indirectHighAddr_eq_nextInPage]
  | indirectX => simp only [resolve, address, crossed, pointerReads, zeroPagePointer_eq]
  | indirectY => simp only [resolve, address, crossed, pointerReads, zeroPagePointer_eq, indexed_eq]

end Sys2Proof.Machine

/-! PROOFS. Loads, stores and transfers (R120 to R133): what reading an operand gives in the claims' words, what the forms
of a mnemonic have in common, and how the statements about a mnemonic follow from that. -/

namespace Sys2Proof.Machine

open Sys2Proof.Claims (zn hiByte loByte afterEvents address pointerReads dataRead operandBytes readBytes value reads
  crossCycles base ReadsInto StoresByte Implied ldaForm ldxForm ldyForm staForm stxForm styForm)

/-! ### Z and N (R10) -/

/-- The claims' `SetZN(v)` is the model's: zero is no bit set, and negative is bit 7. -/
theorem zn_eq_setZN (v : Byte) (p : Status) : zn v p = p.setZN v := by
  have zero : decide (v.toNat = 0) = (v == 0) := by
    rw [Bool.eq_iff_iff]
    simp [← BitVec.toNat_inj]
  have negative : decide (128 ≤ v.toNat) = bit v 7 :=
    (BitVec.msb_eq_decide v).symm.trans (BitVec.msb_eq_getLsbD_last v)
  rw [zn, zero, negative, Status.setZN]

/-! ### Reading an operand (R105, R121, R133) -/

section
variable (o : ReadOperand) (s : State)

/-- The byte a reading instruction works on is the immediate byte, or the bus's answer after the pointer reads. -/
theorem readOperand_value : (readOperand o s).value = value o s := by
  cases o with
  | immediate v => rfl
  | memory m =>
    simp only [readOperand, resolveFollowsModeTable m s, read8_eq]
    rfl

/-- Its reads are the pointer reads and then the data read. -/
theorem readOperand_after : (readOperand o s).after = afterEvents (reads o s) s := by
  cases o with
  | immediate v => exact (afterEvents_nil s).symm
  | memory m =>
    have data : (readOperand (.memory m) s).after =
        (afterEvents (pointerReads m s) s).logEvent (dataRead m s) := by
      simp only [readOperand, resolveFollowsModeTable m s, read8_eq]
      rfl
    rw [data]
    simp [reads, afterEvents, State.logEvent, Nat.add_assoc]

/-- The claims count a cycle for each page cross that reading the operand reports. -/
theorem crossCycles_eq : crossCycles o s = if (readOperand o s).crossed then 1 else 0 := by
  cases o with
  | immediate v => rfl
  | memory m => simp only [crossCycles, readOperand, resolveFollowsModeTable m s]
end

/-- The modes that can report a page cross: the indexed 16-bit addresses (R102, R118). -/
def mayCross : ReadOperand → Bool
  | .memory (.absoluteX _) | .memory (.absoluteY _) | .memory (.indirectY _) => true
  | _ => false

/-- Every other mode reports none. -/
theorem crossCycles_of_not_mayCross {o : ReadOperand} (h : mayCross o = false) (s : State) : crossCycles o s = 0 := by
  cases o with
  | immediate v => rfl
  | memory m =>
    cases m with
    | absoluteX | absoluteY | indirectY => cases h
    | _ => rfl

/-! ### Cycles (R82, R286, R288) -/

/-- Where the descriptor's flag is off, an instruction without extra cycles takes its base count. -/
theorem instrCycles_of_not_extra {op : Byte} (h : pageCrossExtra op = false) (s : State) (cross : Bool) :
    instrCycles s.cfg op cross 0 = base s op := by
  simp [instrCycles, h, base, baseCycles]

/-- Where the flag is on exactly for the modes that can cross, the extra cycle is the claims'. -/
theorem instrCycles_of_mayCross {op : Byte} {o : ReadOperand} (h : pageCrossExtra op = mayCross o) (s : State) :
    instrCycles s.cfg op (readOperand o s).crossed 0 = base s op + crossCycles o s := by
  cases may : mayCross o with
  | false => rw [instrCycles_of_not_extra (h.trans may), crossCycles_of_not_mayCross may, Nat.add_zero]
  | true => simp [instrCycles, h, may, base, baseCycles, crossCycles_eq]

/-! ### The forms of a mnemonic (R83 to R85) -/

/-- What the forms of a mnemonic have in common: each is encoded as its opcode and its operand bytes, its meaning is the
shared operation `run`, and the opcode's page-cross flag is the one `extra` says of the operand (R116). -/
def FormsMean {α : Type} (bytes : α → List Byte) (extra : α → Bool) (forms : α → Option (Byte × Instr))
    (run : Byte → α → State → Result) : Prop :=
  ∀ o op i, forms o = some (op, i) →
    encode i = op :: bytes o ∧ (∀ s, exec i s = run op o s) ∧ pageCrossExtra op = extra o

/-- Forms that read their operand; the flag is on for the modes that can cross. -/
abbrev ReadFormsMean := FormsMean readBytes mayCross

/-- Forms that write memory: no page cross costs them a cycle. -/
abbrev WriteFormsMean := FormsMean operandBytes fun _ => false

/-- A mnemonic that reads its operand does what `ReadsInto` says when its operation changes `s` by `f` and the reads. -/
theorem FormsMean.readsInto {forms : ReadOperand → Option (Byte × Instr)} {run : Byte → ReadOperand → State → Result}
    {f : State → Byte → State} (h : ReadFormsMean forms run)
    (hrun : ∀ op o s, run op o s = .next
      { afterEvents (reads o s) (f s (value o s)) with
        elapsed := s.elapsed + instrCycles s.cfg op (readOperand o s).crossed 0 }) :
    ReadsInto forms f := by
  intro o op i s form
  obtain ⟨encoded, meaning, flag⟩ := h o op i form
  refine ⟨encoded, ?_⟩
  rw [meaning, hrun, instrCycles_of_mayCross flag, Nat.add_assoc]

/-- A store of `v s` is the pointer reads, one write, and memory as the model's write leaves it (R120). -/
theorem FormsMean.storesByte {forms : MemOperand → Option (Byte × Instr)} {run : Byte → MemOperand → State → Result}
    {v : State → Byte} (h : WriteFormsMean forms run) (hrun : ∀ op o s, run op o s = store op (v s) o s) :
    StoresByte forms v := by
  rintro o op i s ⟨hmem, -⟩ form
  obtain ⟨encoded, meaning, flag⟩ := h o op i form
  refine ⟨encoded, s.memAfterWrite (address o s) (v s), memoryAfter_memAfterWrite hmem _ _, ?_⟩
  rw [meaning, hrun, store_eq, instrCycles_of_not_extra flag, resolveFollowsModeTable o s]
  simp [afterEvents, Nat.add_assoc]

/-- An instruction that ends in `t s`, counting no cycles on the way, does what `Implied` says. -/
theorem implied_of_retire {op : Byte} {i : Instr} {t : State → State} (encoded : encode i = [op])
    (meaning : ∀ s, exec i s = retire op false 0 (t s)) (cfg : ∀ s, (t s).cfg = s.cfg)
    (elapsed : ∀ s, (t s).elapsed = s.elapsed) : Implied op i t := by
  refine ⟨encoded, fun s => ?_⟩
  rw [meaning, retire_eq, State.addCycles, elapsed, cfg]
  simp [instrCycles, base, baseCycles, cfg]

/-! ### The forms of the loads and stores (R121 to R126)

Every form is read off the encoder, the dispatch and the opcode table; a 16-bit operand needs its two bytes compared. -/

/-- The operand bytes of a 16-bit operand, as the encoder and as the claims say them (R83). -/
theorem lo8_hi8_eq (w : Word) : [lo8 w, hi8 w] = [loByte w, hiByte w] := by rw [lo8_eq_loByte, hi8_eq_hiByte]

theorem ldaForm_mean : ReadFormsMean ldaForm loadA
  | .immediate _, _, _, rfl | .memory (.zeroPage _), _, _, rfl | .memory (.zeroPageX _), _, _, rfl
  | .memory (.indirectX _), _, _, rfl | .memory (.indirectY _), _, _, rfl => ⟨rfl, fun _ => rfl, rfl⟩
  | .memory (.absolute _), _, _, rfl | .memory (.absoluteX _), _, _, rfl | .memory (.absoluteY _), _, _, rfl =>
    ⟨congrArg (_ :: ·) (lo8_hi8_eq _), fun _ => rfl, rfl⟩

theorem ldxForm_mean : ReadFormsMean ldxForm loadX
  | .immediate _, _, _, rfl | .memory (.zeroPage _), _, _, rfl | .memory (.zeroPageY _), _, _, rfl =>
    ⟨rfl, fun _ => rfl, rfl⟩
  | .memory (.absolute _), _, _, rfl | .memory (.absoluteY _), _, _, rfl =>
    ⟨congrArg (_ :: ·) (lo8_hi8_eq _), fun _ => rfl, rfl⟩

theorem ldyForm_mean : ReadFormsMean ldyForm loadY
  | .immediate _, _, _, rfl | .memory (.zeroPage _), _, _, rfl | .memory (.zeroPageX _), _, _, rfl =>
    ⟨rfl, fun _ => rfl, rfl⟩
  | .memory (.absolute _), _, _, rfl | .memory (.absoluteX _), _, _, rfl =>
    ⟨congrArg (_ :: ·) (lo8_hi8_eq _), fun _ => rfl, rfl⟩

theorem staForm_mean : WriteFormsMean staForm storeA
  | .zeroPage _, _, _, rfl | .zeroPageX _, _, _, rfl | .indirectX _, _, _, rfl | .indirectY _, _, _, rfl =>
    ⟨rfl, fun _ => rfl, rfl⟩
  | .absolute _, _, _, rfl | .absoluteX _, _, _, rfl | .absoluteY _, _, _, rfl =>
    ⟨congrArg (_ :: ·) (lo8_hi8_eq _), fun _ => rfl, rfl⟩

theorem stxForm_mean : WriteFormsMean stxForm storeX
  | .zeroPage _, _, _, rfl | .zeroPageY _, _, _, rfl => ⟨rfl, fun _ => rfl, rfl⟩
  | .absolute _, _, _, rfl => ⟨congrArg (_ :: ·) (lo8_hi8_eq _), fun _ => rfl, rfl⟩

theorem styForm_mean : WriteFormsMean styForm storeY
  | .zeroPage _, _, _, rfl | .zeroPageX _, _, _, rfl => ⟨rfl, fun _ => rfl, rfl⟩
  | .absolute _, _, _, rfl => ⟨congrArg (_ :: ·) (lo8_hi8_eq _), fun _ => rfl, rfl⟩

/-! ### The statements -/

/-- Settles O10: a load puts the byte of the operand it reads in its register; what it reads is the claims' `value`. -/
theorem loadsPutTheByteInTheRegister : Obligations.LoadsPutTheByteInTheRegister := by
  simp only [Obligations.LoadsPutTheByteInTheRegister, zn_eq_setZN]
  refine ⟨ldaForm_mean.readsInto fun op o s => ?_, ldxForm_mean.readsInto fun op o s => ?_,
    ldyForm_mean.readsInto fun op o s => ?_⟩
  · rw [loadA_eq, readOperand_value, readOperand_after]
    rfl
  · rw [loadX_eq, readOperand_value, readOperand_after]
    rfl
  · rw [loadY_eq, readOperand_value, readOperand_after]
    rfl

/-- Settles O11: the three mnemonics share `store` and differ in the register alone (R120); the counts are R85's. -/
theorem storesWriteTheRegister : Obligations.StoresWriteTheRegister :=
  ⟨by decide, by decide, by decide, staForm_mean.storesByte fun _ _ _ => rfl, stxForm_mean.storesByte fun _ _ _ => rfl,
    styForm_mean.storesByte fun _ _ _ => rfl⟩

/-- Settles O12: each transfer is `retire` of the state the statement gives, once `zn` is read as the model's `setZN`. -/
theorem transfersCopyTheRegister : Obligations.TransfersCopyTheRegister := by
  simp only [Obligations.TransfersCopyTheRegister, zn_eq_setZN]
  refine ⟨by decide, ?_, ?_, ?_, ?_, ?_, ?_⟩
  all_goals exact implied_of_retire rfl (fun _ => rfl) (fun _ => rfl) fun _ => rfl

end Sys2Proof.Machine

/-! PROOFS. Arithmetic, compare, increment and decrement (R140 to R151): the adder in the claims' numbers, SBC as a sum
and as a difference, what a compare leaves, and the read-modify-write of memory. -/

namespace Sys2Proof.Machine

open Sys2Proof.Claims (zn signed afterEvents address crossed pointerReads dataRead operandByte value reads summed
  compared plusOne minusOne Modifies adcForm sbcForm cmpForm cpxForm cpyForm incForm decForm)

/-! ### The adder (R140) -/

/-- The sign of a byte is its comparison with 128. -/
theorem getLsbD_seven (v : Byte) : v.getLsbD 7 = decide (128 ≤ v.toNat) :=
  (BitVec.msb_eq_getLsbD_last v).symm.trans (BitVec.msb_eq_decide v)

/-- Masking with 0x80 leaves the sign. -/
theorem and_0x80_ne_zero (v : Byte) : ((v &&& 0x80) != 0) = v.getLsbD 7 := by
  have mask : v &&& 0x80 = if v.getLsbD 7 then 0x80 else 0 := BitVec.and_twoPow v 7
  rw [mask]
  cases v.getLsbD 7 <;> rfl

section
variable (a m : Byte) (c : Bool)

theorem addWithCarry_value_toNat : (addWithCarry a m c).value.toNat = (a.toNat + m.toNat + c.toNat) % 256 :=
  BitVec.toNat_ofNat _ _

theorem addWithCarry_carry_iff : (addWithCarry a m c).carry = true ↔ 255 < a.toNat + m.toNat + c.toNat :=
  decide_eq_true_iff

/-- The overflow as the spec's mask tests it: both operands differ in sign from the result. -/
theorem addWithCarry_overflow_iff_signs :
    (addWithCarry a m c).overflow = true ↔
      a.getLsbD 7 = m.getLsbD 7 ∧ a.getLsbD 7 ≠ (addWithCarry a m c).value.getLsbD 7 := by
  have mask : (addWithCarry a m c).overflow =
      ((a.getLsbD 7 ^^ (addWithCarry a m c).value.getLsbD 7) &&
        (m.getLsbD 7 ^^ (addWithCarry a m c).value.getLsbD 7)) := by
    rw [addWithCarry, and_0x80_ne_zero, BitVec.getLsbD_and, BitVec.getLsbD_xor, BitVec.getLsbD_xor]
  rw [mask]
  cases a.getLsbD 7 <;> cases m.getLsbD 7 <;> cases (addWithCarry a m c).value.getLsbD 7 <;> decide

/-- The same with every sign read as a comparison, the result's too: what is left is arithmetic of the operands. -/
theorem addWithCarry_overflow_iff_halves :
    (addWithCarry a m c).overflow = true ↔
      (128 ≤ a.toNat ↔ 128 ≤ m.toNat) ∧ ¬(128 ≤ a.toNat ↔ 128 ≤ (a.toNat + m.toNat + c.toNat) % 256) := by
  simp only [addWithCarry_overflow_iff_signs, getLsbD_seven, addWithCarry_value_toNat, ne_eq, decide_eq_decide]

theorem addWithCarry_overflow_iff_signed_range :
    (addWithCarry a m c).overflow = true ↔
      signed a + signed m + c.toNat < -128 ∨ 127 < signed a + signed m + c.toNat := by
  have ha := a.isLt
  have hm := m.isLt
  have hc := c.toNat_le
  rw [addWithCarry_overflow_iff_halves, signed, signed]
  split <;> split <;> omega

theorem addWithCarry_overflow_eq_carries :
    (addWithCarry a m c).overflow =
      ((decide (127 < a.toNat % 128 + m.toNat % 128 + c.toNat)) ^^ (addWithCarry a m c).carry) := by
  have ha := a.isLt
  have hm := m.isLt
  have hc := c.toNat_le
  rw [Bool.eq_iff_iff, Bool.xor_iff_ne, ne_eq, Bool.eq_iff_iff (b := (addWithCarry a m c).carry), decide_eq_true_iff,
    addWithCarry_carry_iff, addWithCarry_overflow_iff_halves]
  omega
end

/-- The claims' exact sum is the adder's result with its flags (R141). -/
theorem summed_eq (s : State) (m : Byte) :
    summed s m =
      { s with
        a := (addWithCarry s.a m s.p.c).value
        p := Status.setZN (addWithCarry s.a m s.p.c).value
          { s.p with c := (addWithCarry s.a m s.p.c).carry, v := (addWithCarry s.a m s.p.c).overflow } } := by
  have overflow : (addWithCarry s.a m s.p.c).overflow =
      decide (signed s.a + signed m + s.p.c.toNat < -128 ∨ 127 < signed s.a + signed m + s.p.c.toNat) :=
    Bool.eq_iff_iff.mpr ((addWithCarry_overflow_iff_signed_range _ _ _).trans decide_eq_true_iff.symm)
  rw [overflow, ← zn_eq_setZN]
  rfl

/-! ### The complemented operand (R142) -/

theorem xor_0xFF_eq_not (m : Byte) : m ^^^ 0xFF = ~~~m := BitVec.xor_allOnes

theorem xor_0xFF_toNat (m : Byte) : (m ^^^ 0xFF).toNat = 255 - m.toNat := by
  rw [xor_0xFF_eq_not, BitVec.toNat_not]

theorem signed_xor_0xFF (m : Byte) : signed (m ^^^ 0xFF) = -1 - signed m := by
  have hm := m.isLt
  rw [signed, signed, xor_0xFF_toNat]
  split <;> split <;> omega

/-- The sum with the complemented operand is the difference plus 256. -/
theorem add_complement_eq (a m : Byte) (c : Bool) :
    ((a.toNat + (m ^^^ 0xFF).toNat + c.toNat : Nat) : Int) = (a.toNat : Int) - m.toNat - (1 - c.toNat) + 256 := by
  have hm := m.isLt
  rw [xor_0xFF_toNat]
  omega

/-- An integer and 256 more than it are the same byte. -/
theorem ofNat_eq_ofInt_of_eq_add_256 {n : Nat} {z : Int} (h : (n : Int) = z + 256) :
    BitVec.ofNat 8 n = BitVec.ofInt 8 z := by
  apply BitVec.eq_of_toNat_eq
  rw [BitVec.toNat_ofNat, BitVec.toNat_ofInt]
  omega

/-- A, C, V, Z and N after subtracting `m` and the borrow from A, with the exact differences (R142). -/
def subtracted (s : State) (m : Byte) : State :=
  let diff : Int := (s.a.toNat : Int) - m.toNat - (1 - s.p.c.toNat)
  let sdiff : Int := signed s.a - signed m - (1 - s.p.c.toNat)
  { s with
    a := BitVec.ofInt 8 diff
    p := zn (BitVec.ofInt 8 diff) { s.p with c := decide (0 ≤ diff), v := decide (sdiff < -128 ∨ 127 < sdiff) } }

/-- The sum with the complement is that difference: the byte is the same, the carry says that there is no borrow, and
the signed sum is the signed difference. -/
theorem summed_complement (s : State) (m : Byte) : summed s (m ^^^ 0xFF) = subtracted s m := by
  have sum := add_complement_eq s.a m s.p.c
  have noBorrow : 255 < s.a.toNat + (m ^^^ 0xFF).toNat + s.p.c.toNat ↔
      0 ≤ (s.a.toNat : Int) - m.toNat - (1 - s.p.c.toNat) := by
    omega
  have ssum : signed s.a + signed (m ^^^ 0xFF) + s.p.c.toNat = signed s.a - signed m - (1 - s.p.c.toNat) := by
    rw [signed_xor_0xFF]
    omega
  simp only [summed, subtracted, ofNat_eq_ofInt_of_eq_add_256 sum, noBorrow, ssum]

/-! ### Plus and minus one, and the difference (R143, R146, R149) -/

theorem plusOne_eq (v : Byte) : plusOne v = v + 1 := by
  apply BitVec.eq_of_toNat_eq
  rw [plusOne, BitVec.toNat_ofNat, BitVec.toNat_add]
  rfl

theorem minusOne_eq (v : Byte) : minusOne v = v - 1 := by
  apply BitVec.eq_of_toNat_eq
  rw [minusOne, BitVec.toNat_ofNat, BitVec.toNat_sub, Nat.add_comm]
  rfl

/-- The claims' flags of a compare are the model's. -/
theorem compared_eq (reg m : Byte) (p : Status) : compared reg m p = Status.compare reg m p := by
  have difference : BitVec.ofInt 8 ((reg.toNat : Int) - m.toNat) = reg - m := by
    apply BitVec.eq_of_toNat_eq
    rw [BitVec.toNat_ofInt, BitVec.toNat_sub]
    omega
  rw [compared, difference, zn_eq_setZN, Status.compare]

/-! ### The forms (R141 to R146, R149) -/

theorem adcForm_mean : ReadFormsMean adcForm adc
  | .immediate _, _, _, rfl | .memory (.zeroPage _), _, _, rfl | .memory (.zeroPageX _), _, _, rfl
  | .memory (.indirectX _), _, _, rfl | .memory (.indirectY _), _, _, rfl => ⟨rfl, fun _ => rfl, rfl⟩
  | .memory (.absolute _), _, _, rfl | .memory (.absoluteX _), _, _, rfl | .memory (.absoluteY _), _, _, rfl =>
    ⟨congrArg (_ :: ·) (lo8_hi8_eq _), fun _ => rfl, rfl⟩

theorem sbcForm_mean : ReadFormsMean sbcForm sbc
  | .immediate _, _, _, rfl | .memory (.zeroPage _), _, _, rfl | .memory (.zeroPageX _), _, _, rfl
  | .memory (.indirectX _), _, _, rfl | .memory (.indirectY _), _, _, rfl => ⟨rfl, fun _ => rfl, rfl⟩
  | .memory (.absolute _), _, _, rfl | .memory (.absoluteX _), _, _, rfl | .memory (.absoluteY _), _, _, rfl =>
    ⟨congrArg (_ :: ·) (lo8_hi8_eq _), fun _ => rfl, rfl⟩

theorem cmpForm_mean : ReadFormsMean cmpForm cmpA
  | .immediate _, _, _, rfl | .memory (.zeroPage _), _, _, rfl | .memory (.zeroPageX _), _, _, rfl
  | .memory (.indirectX _), _, _, rfl | .memory (.indirectY _), _, _, rfl => ⟨rfl, fun _ => rfl, rfl⟩
  | .memory (.absolute _), _, _, rfl | .memory (.absoluteX _), _, _, rfl | .memory (.absoluteY _), _, _, rfl =>
    ⟨congrArg (_ :: ·) (lo8_hi8_eq _), fun _ => rfl, rfl⟩

theorem cpxForm_mean : ReadFormsMean cpxForm cmpX
  | .immediate _, _, _, rfl | .memory (.zeroPage _), _, _, rfl => ⟨rfl, fun _ => rfl, rfl⟩
  | .memory (.absolute _), _, _, rfl => ⟨congrArg (_ :: ·) (lo8_hi8_eq _), fun _ => rfl, rfl⟩

theorem cpyForm_mean : ReadFormsMean cpyForm cmpY
  | .immediate _, _, _, rfl | .memory (.zeroPage _), _, _, rfl => ⟨rfl, fun _ => rfl, rfl⟩
  | .memory (.absolute _), _, _, rfl => ⟨congrArg (_ :: ·) (lo8_hi8_eq _), fun _ => rfl, rfl⟩

theorem incForm_mean : WriteFormsMean incForm incMem
  | .zeroPage _, _, _, rfl | .zeroPageX _, _, _, rfl => ⟨rfl, fun _ => rfl, rfl⟩
  | .absolute _, _, _, rfl | .absoluteX _, _, _, rfl => ⟨congrArg (_ :: ·) (lo8_hi8_eq _), fun _ => rfl, rfl⟩

theorem decForm_mean : WriteFormsMean decForm decMem
  | .zeroPage _, _, _, rfl | .zeroPageX _, _, _, rfl => ⟨rfl, fun _ => rfl, rfl⟩
  | .absolute _, _, _, rfl | .absoluteX _, _, _, rfl => ⟨congrArg (_ :: ·) (lo8_hi8_eq _), fun _ => rfl, rfl⟩

/-! ### What the shared operations make of the operand byte -/

/-- ADC adds the operand byte, whatever D is (R31, R141). -/
theorem adc_eq_summed (op : Byte) (o : ReadOperand) (s : State) :
    adc op o s = .next
      { afterEvents (reads o s) (summed s (value o s)) with
        elapsed := s.elapsed + instrCycles s.cfg op (readOperand o s).crossed 0 } := by
  rw [adc_eq, readOperand_value, readOperand_after, summed_eq]
  rfl

/-- SBC adds the complemented operand byte (R142). -/
theorem sbc_eq_summed (op : Byte) (o : ReadOperand) (s : State) :
    sbc op o s = .next
      { afterEvents (reads o s) (summed s (value o s ^^^ 0xFF)) with
        elapsed := s.elapsed + instrCycles s.cfg op (readOperand o s).crossed 0 } := by
  rw [sbc_eq, readOperand_value, readOperand_after, xor_0xFF_eq_not, summed_eq]
  rfl

/-- A compare leaves the claims' flags and changes nothing else (R143). -/
theorem compareWith_eq_compared (op reg : Byte) (o : ReadOperand) (s : State) :
    compareWith op reg o s = .next
      { afterEvents (reads o s) { s with p := compared reg (value o s) s.p } with
        elapsed := s.elapsed + instrCycles s.cfg op (readOperand o s).crossed 0 } := by
  rw [compareWith_eq, readOperand_value, readOperand_after, compared_eq]
  rfl

/-- `s` after a read-modify-write of the byte at the effective address: the pointer reads, the data read, the write of
`r`, the status `p` and the cycles of `op` (R146, R160). -/
def afterModify (op : Byte) (o : MemOperand) (r : Byte) (p : Status) (s : State) : State :=
  { afterEvents (pointerReads o s ++ [dataRead o s, .write (address o s) r]) s with
    mem := s.memAfterWrite (address o s) r
    p := p
    elapsed := s.elapsed + instrCycles s.cfg op (crossed o s) 0 }

/-- A mnemonic whose operation ends in `afterModify` does what `Modifies` says, where memory is canonical. -/
theorem FormsMean.modifies {forms : MemOperand → Option (Byte × Instr)} {run : Byte → MemOperand → State → Result}
    (h : WriteFormsMean forms run) {o : MemOperand} {op : Byte} {i : Instr} {s : State} {r : Byte} {p : Status}
    (hrun : run op o s = .next (afterModify op o r p s)) (inv : s.Inv) (form : forms o = some (op, i)) :
    Modifies op i o s r p := by
  obtain ⟨encoded, meaning, flag⟩ := h o op i form
  refine ⟨encoded, s.memAfterWrite (address o s) r, memoryAfter_memAfterWrite inv.1 _ _, ?_⟩
  rw [meaning, hrun, afterModify, instrCycles_of_not_extra flag]

/-- The bus's answer after the pointer reads is the claims' operand byte (R133). -/
theorem answerAt_resolve (o : MemOperand) (s : State) :
    s.answerAt (resolve o s).after.portEvents (resolve o s).addr = operandByte o s := by
  rw [resolveFollowsModeTable o s]
  rfl

/-- `afterModify` in the model's words, as the equations of the operations on memory say it. -/
theorem afterModify_eq_resolve (op : Byte) (o : MemOperand) (r : Byte) (p : Status) (s : State) :
    afterModify op o r p s =
      { (resolve o s).after with
        p := p
        mem := s.memAfterWrite (resolve o s).addr r
        elapsed := s.elapsed + instrCycles s.cfg op (resolve o s).crossed 0
        bus := (resolve o s).after.bus ++
          [.read (resolve o s).addr (operandByte o s), .write (resolve o s).addr r]
        portEvents := (resolve o s).after.portEvents + 2 } := by
  rw [resolveFollowsModeTable o s]
  simp [afterModify, afterEvents, dataRead, Nat.add_assoc]

/-- INC ends with the byte read plus one, and Z and N from it (R146). -/
theorem incMem_eq_afterModify (op : Byte) (o : MemOperand) (s : State) :
    incMem op o s = .next
      (afterModify op o (plusOne (operandByte o s)) (zn (plusOne (operandByte o s)) s.p) s) := by
  rw [incMem_eq, answerAt_resolve, afterModify_eq_resolve, plusOne_eq, zn_eq_setZN]

/-- DEC ends with the byte read minus one, and Z and N from it (R149). -/
theorem decMem_eq_afterModify (op : Byte) (o : MemOperand) (s : State) :
    decMem op o s = .next
      (afterModify op o (minusOne (operandByte o s)) (zn (minusOne (operandByte o s)) s.p) s) := by
  rw [decMem_eq, answerAt_resolve, afterModify_eq_resolve, minusOne_eq, zn_eq_setZN]

/-! ### The statements -/

/-- Settles O13: the mask is the test of the signs, and the other two tests are arithmetic from there. -/
theorem adderFollowsNineBitSum : Obligations.AdderFollowsNineBitSum := fun a m c =>
  ⟨addWithCarry_value_toNat a m c, addWithCarry_carry_iff a m c, addWithCarry_overflow_iff_signs a m c,
    addWithCarry_overflow_iff_signed_range a m c, addWithCarry_overflow_eq_carries a m c⟩

/-- Settles O14: ADC's result and flags are the adder's, which is the exact sum. -/
theorem adcAddsWithCarry : Obligations.AdcAddsWithCarry := adcForm_mean.readsInto adc_eq_summed

/-- Settles O15: SBC gives the adder the complemented byte. -/
theorem sbcAddsTheComplement : Obligations.SbcAddsTheComplement := sbcForm_mean.readsInto sbc_eq_summed

/-- Settles O16: O15's sum, read as a difference. -/
theorem sbcSubtractsWithBorrow : Obligations.SbcSubtractsWithBorrow :=
  sbcForm_mean.readsInto (f := subtracted) fun op o s => by rw [sbc_eq_summed, summed_complement]

/-- Settles O17: the three mnemonics share `compareWith` and differ in the register alone. -/
theorem comparesSetCarryZeroNegative : Obligations.ComparesSetCarryZeroNegative :=
  ⟨cmpForm_mean.readsInto fun op o s => compareWith_eq_compared op s.a o s,
    cpxForm_mean.readsInto fun op o s => compareWith_eq_compared op s.x o s,
    cpyForm_mean.readsInto fun op o s => compareWith_eq_compared op s.y o s⟩

/-- Settles O18: both mnemonics end in `afterModify`. -/
theorem incDecModifyMemory : Obligations.IncDecModifyMemory :=
  ⟨fun _ _ _ _ => incForm_mean.modifies (incMem_eq_afterModify _ _ _),
    fun _ _ _ _ => decForm_mean.modifies (decMem_eq_afterModify _ _ _)⟩

/-- Settles O19: each is `retire` of the state the statement gives, once its byte and its flags are the model's. -/
theorem indexIncDecWrap : Obligations.IndexIncDecWrap := by
  simp only [Obligations.IndexIncDecWrap, plusOne_eq, minusOne_eq, zn_eq_setZN]
  refine ⟨?_, ?_, ?_, ?_⟩
  all_goals exact implied_of_retire rfl (fun _ => rfl) (fun _ => rfl) fun _ => rfl

end Sys2Proof.Machine

/-! PROOFS. Logic, bit test, shifts and rotates (R160 to R168): the bits that leave and enter as arithmetic of the byte,
and how the two shared shift operations give `ShiftsA` and `ShiftsMemory`. -/

namespace Sys2Proof.Machine

open Sys2Proof.Claims (zn operandBytes operandByte aslOf lsrOf rolOf rorOf ShiftsA ShiftsMemory andForm oraForm eorForm
  bitForm aslForm lsrForm rolForm rorForm)

/-! ### Single bits of a byte, as arithmetic -/

theorem getLsbD_zero_eq_odd (v : Byte) : v.getLsbD 0 = decide (v.toNat % 2 = 1) := by
  rw [← BitVec.testBit_toNat, Nat.testBit_zero]

theorem getLsbD_six (v : Byte) : v.getLsbD 6 = decide (64 ≤ v.toNat % 128) := by
  rw [← BitVec.testBit_toNat, Nat.testBit_eq_decide_div_mod_eq, decide_eq_decide]
  omega

/-- A flag at bit `k` counts the place value of that bit. -/
theorem bitAt_eq_ofNat (c : Bool) (k : Nat) : bitAt c k = BitVec.ofNat 8 (2 ^ k * c.toNat) := by
  cases c with
  | false => rfl
  | true =>
    have power : bitAt true k = BitVec.twoPow 8 k := rfl
    apply BitVec.eq_of_toNat_eq
    rw [power, BitVec.toNat_twoPow, BitVec.toNat_ofNat, Bool.toNat_true, Nat.mul_one]

/-- Putting a flag into a clear bit is adding it there: nothing carries. -/
theorem or_bitAt_eq_add {v : Byte} {k : Nat} (hk : k < 8) (clear : v.getLsbD k = false) (c : Bool) :
    v ||| bitAt c k = v + bitAt c k := by
  refine (BitVec.add_eq_or_of_and_eq_zero _ _ (BitVec.eq_of_getLsbD_eq fun j _ => ?_)).symm
  rw [BitVec.getLsbD_and, getLsbD_bitAt c hk, BitVec.getLsbD_zero]
  by_cases hj : j = k
  · rw [hj, clear, Bool.false_and]
  · simp [hj]

/-! ### The four shifts in the claims' numbers (R165 to R168) -/

section
variable (v : Byte)

theorem shiftLeft_one_eq : v <<< 1 = BitVec.ofNat 8 (2 * v.toNat) := by
  apply BitVec.eq_of_toNat_eq
  rw [BitVec.toNat_shiftLeft, BitVec.toNat_ofNat, Nat.shiftLeft_eq, Nat.mul_comm]

theorem shiftRight_one_eq : v >>> 1 = BitVec.ofNat 8 (v.toNat / 2) := by
  have hv := v.isLt
  apply BitVec.eq_of_toNat_eq
  rw [BitVec.toNat_ushiftRight, BitVec.toNat_ofNat, Nat.shiftRight_eq_div_pow]
  omega

/-- Shifting left clears bit 0, so the carry that enters there is added to the double. -/
theorem shiftLeft_one_or_bitAt_eq (c : Bool) : v <<< 1 ||| bitAt c 0 = BitVec.ofNat 8 (2 * v.toNat + c.toNat) := by
  rw [or_bitAt_eq_add (by decide) (by simp), shiftLeft_one_eq, bitAt_eq_ofNat, ← BitVec.ofNat_add, pow_zero, one_mul]

/-- Shifting right clears bit 7, so the carry that enters there adds 128 to the half. -/
theorem shiftRight_one_or_bitAt_eq (c : Bool) :
    v >>> 1 ||| bitAt c 7 = BitVec.ofNat 8 (v.toNat / 2 + 128 * c.toNat) := by
  rw [or_bitAt_eq_add (by decide) (by simp), shiftRight_one_eq, bitAt_eq_ofNat, ← BitVec.ofNat_add]
  rfl
end

theorem shiftLeft_eq_aslOf : shiftLeft = aslOf := by
  funext v c
  rw [shiftLeft, aslOf, bit, shiftLeft_one_eq, getLsbD_seven]

theorem shiftRight_eq_lsrOf : shiftRight = lsrOf := by
  funext v c
  rw [shiftRight, lsrOf, bit, shiftRight_one_eq, getLsbD_zero_eq_odd]

theorem rotateLeft_eq_rolOf : rotateLeft = rolOf := by
  funext v c
  rw [rotateLeft, rolOf, bit, shiftLeft_one_or_bitAt_eq, getLsbD_seven]

theorem rotateRight_eq_rorOf : rotateRight = rorOf := by
  funext v c
  rw [rotateRight, rorOf, bit, shiftRight_one_or_bitAt_eq, getLsbD_zero_eq_odd]

/-! ### What the shared shift operations do -/

theorem shifted_eq_zn (r : Byte × Bool) (p : Status) : p.shifted r = zn r.1 { p with c := r.2 } := by
  rw [Status.shifted, zn_eq_setZN]

/-- A shift of A does what `ShiftsA` says: it accesses no bus and costs its base cycles (R160). -/
theorem shiftsA_of_shiftA {op : Byte} {i : Instr} {f : Byte → Bool → Byte × Bool} (encoded : encode i = [op])
    (meaning : ∀ s, exec i s = shiftA op f s) (flag : pageCrossExtra op = false) : ShiftsA op i f := by
  refine ⟨encoded, fun s => ?_⟩
  rw [meaning, shiftA_eq, shifted_eq_zn, instrCycles_of_not_extra flag]

/-- A shift of memory ends with the byte read shifted, and C, Z and N from that (R160). -/
theorem shiftMem_eq_afterModify (op : Byte) (f : Byte → Bool → Byte × Bool) (o : MemOperand) (s : State) :
    shiftMem op f o s = .next
      (afterModify op o (f (operandByte o s) s.p.c).1
        (zn (f (operandByte o s) s.p.c).1 { s.p with c := (f (operandByte o s) s.p.c).2 }) s) := by
  rw [shiftMem_eq, answerAt_resolve, afterModify_eq_resolve, shifted_eq_zn]

/-- A mnemonic whose memory forms mean `shiftMem` with `f` does what `ShiftsMemory` says. -/
theorem FormsMean.shiftsMemory {forms : MemOperand → Option (Byte × Instr)} {f : Byte → Bool → Byte × Bool}
    (h : WriteFormsMean forms (shiftMem · f)) : ShiftsMemory forms f :=
  fun o op _ s inv form => h.modifies (shiftMem_eq_afterModify op f o s) inv form

/-- The claims' flags of BIT are the model's (R164). -/
theorem bitTest_status_eq (a m : Byte) (p : Status) :
    Status.bitTest a m p =
      { p with z := decide (a &&& m = 0), n := decide (128 ≤ m.toNat), v := decide (64 ≤ m.toNat % 128) } := by
  rw [← getLsbD_seven, ← getLsbD_six]
  rfl

/-! ### The forms (R161 to R168) -/

theorem andForm_mean : ReadFormsMean andForm andA
  | .immediate _, _, _, rfl | .memory (.zeroPage _), _, _, rfl | .memory (.zeroPageX _), _, _, rfl
  | .memory (.indirectX _), _, _, rfl | .memory (.indirectY _), _, _, rfl => ⟨rfl, fun _ => rfl, rfl⟩
  | .memory (.absolute _), _, _, rfl | .memory (.absoluteX _), _, _, rfl | .memory (.absoluteY _), _, _, rfl =>
    ⟨congrArg (_ :: ·) (lo8_hi8_eq _), fun _ => rfl, rfl⟩

theorem oraForm_mean : ReadFormsMean oraForm oraA
  | .immediate _, _, _, rfl | .memory (.zeroPage _), _, _, rfl | .memory (.zeroPageX _), _, _, rfl
  | .memory (.indirectX _), _, _, rfl | .memory (.indirectY _), _, _, rfl => ⟨rfl, fun _ => rfl, rfl⟩
  | .memory (.absolute _), _, _, rfl | .memory (.absoluteX _), _, _, rfl | .memory (.absoluteY _), _, _, rfl =>
    ⟨congrArg (_ :: ·) (lo8_hi8_eq _), fun _ => rfl, rfl⟩

theorem eorForm_mean : ReadFormsMean eorForm eorA
  | .immediate _, _, _, rfl | .memory (.zeroPage _), _, _, rfl | .memory (.zeroPageX _), _, _, rfl
  | .memory (.indirectX _), _, _, rfl | .memory (.indirectY _), _, _, rfl => ⟨rfl, fun _ => rfl, rfl⟩
  | .memory (.absolute _), _, _, rfl | .memory (.absoluteX _), _, _, rfl | .memory (.absoluteY _), _, _, rfl =>
    ⟨congrArg (_ :: ·) (lo8_hi8_eq _), fun _ => rfl, rfl⟩

/-- BIT reads, but neither of its modes can cross a page. -/
theorem bitForm_mean : FormsMean operandBytes (fun _ => false) bitForm bitTest
  | .zeroPage _, _, _, rfl => ⟨rfl, fun _ => rfl, rfl⟩
  | .absolute _, _, _, rfl => ⟨congrArg (_ :: ·) (lo8_hi8_eq _), fun _ => rfl, rfl⟩

theorem aslForm_mean : WriteFormsMean aslForm (shiftMem · shiftLeft)
  | .zeroPage _, _, _, rfl | .zeroPageX _, _, _, rfl => ⟨rfl, fun _ => rfl, rfl⟩
  | .absolute _, _, _, rfl | .absoluteX _, _, _, rfl => ⟨congrArg (_ :: ·) (lo8_hi8_eq _), fun _ => rfl, rfl⟩

theorem lsrForm_mean : WriteFormsMean lsrForm (shiftMem · shiftRight)
  | .zeroPage _, _, _, rfl | .zeroPageX _, _, _, rfl => ⟨rfl, fun _ => rfl, rfl⟩
  | .absolute _, _, _, rfl | .absoluteX _, _, _, rfl => ⟨congrArg (_ :: ·) (lo8_hi8_eq _), fun _ => rfl, rfl⟩

theorem rolForm_mean : WriteFormsMean rolForm (shiftMem · rotateLeft)
  | .zeroPage _, _, _, rfl | .zeroPageX _, _, _, rfl => ⟨rfl, fun _ => rfl, rfl⟩
  | .absolute _, _, _, rfl | .absoluteX _, _, _, rfl => ⟨congrArg (_ :: ·) (lo8_hi8_eq _), fun _ => rfl, rfl⟩

theorem rorForm_mean : WriteFormsMean rorForm (shiftMem · rotateRight)
  | .zeroPage _, _, _, rfl | .zeroPageX _, _, _, rfl => ⟨rfl, fun _ => rfl, rfl⟩
  | .absolute _, _, _, rfl | .absoluteX _, _, _, rfl => ⟨congrArg (_ :: ·) (lo8_hi8_eq _), fun _ => rfl, rfl⟩

/-! ### The statements -/

/-- Settles O20: each mnemonic combines A with the byte of the operand it reads, which is the claims' `value`. -/
theorem logicCombinesWithA : Obligations.LogicCombinesWithA := by
  simp only [Obligations.LogicCombinesWithA, zn_eq_setZN]
  refine ⟨andForm_mean.readsInto fun op o s => ?_, oraForm_mean.readsInto fun op o s => ?_,
    eorForm_mean.readsInto fun op o s => ?_⟩
  · rw [andA_eq, readOperand_value, readOperand_after]
    rfl
  · rw [oraA_eq, readOperand_value, readOperand_after]
    rfl
  · rw [eorA_eq, readOperand_value, readOperand_after]
    rfl

/-- Settles O21: BIT reads its operand, sets three flags and counts its base cycles, whichever of its forms it is. -/
theorem bitTestsMemory : Obligations.BitTestsMemory := by
  intro o op i s form
  obtain ⟨encoded, meaning, flag⟩ := bitForm_mean o op i form
  refine ⟨encoded, ?_⟩
  rw [meaning, bitTest_eq, instrCycles_of_not_extra flag, readOperand_value, readOperand_after, bitTest_status_eq]
  rfl

/-- Settles O22: the four differ in the function on the byte alone, and the model's is the claims'. -/
theorem shiftsMoveThroughCarry : Obligations.ShiftsMoveThroughCarry := by
  rw [Obligations.ShiftsMoveThroughCarry, ← shiftLeft_eq_aslOf, ← shiftRight_eq_lsrOf, ← rotateLeft_eq_rolOf,
    ← rotateRight_eq_rorOf]
  refine ⟨?_, ?_, ?_, ?_, aslForm_mean.shiftsMemory, lsrForm_mean.shiftsMemory, rolForm_mean.shiftsMemory,
    rorForm_mean.shiftsMemory⟩
  all_goals exact shiftsA_of_shiftA rfl (fun _ => rfl) rfl

end Sys2Proof.Machine

/-! PROOFS. Stack, flag and no-operation instructions (R180 to R192): P as it is pushed and pulled, one push and one pull
in the claims' words, and what each of the twelve instructions answers. -/

namespace Sys2Proof.Machine

open Sys2Proof.Claims (answer readOf afterEvents base pushAt pullAt stackPlace)

/-! ### P on the stack (R182, R184) -/

/-- PHP pushes P with bits 4 and 5 set: R26 sets bit 5 in any case, and the stored Break bit does not show. -/
theorem Status.pushed_true_eq (p : Status) : p.pushed true = p.toByte ||| 0x30 := by
  refine BitVec.eq_of_getLsbD_eq fun k hk => ?_
  rw [Status.pushed, BitVec.getLsbD_or, Status.getLsbD_toByte, Status.getLsbD_toByte]
  interval_cases k <;> simp

/-- A pulled byte gives P its six flags: bit 4 is cleared and bit 5 reads as 1. -/
theorem Status.toByte_ofPulled (v : Byte) : (Status.ofPulled v).toByte = (v &&& 0xCF) ||| 0x20 := by
  refine BitVec.eq_of_getLsbD_eq fun k hk => ?_
  rw [Status.getLsbD_toByte, BitVec.getLsbD_or, BitVec.getLsbD_and]
  interval_cases k <;> simp [Status.ofPulled, bit]

/-! ### One push and one pull (R27, R28) -/

/-- The first pull reads where the model's `Pull8` does, in both stack orders. -/
theorem pullAt_one (s : State) : pullAt s 1 = pullAddr s.cfg s.sp := by
  simp only [pullAt, stackPlace, word_eq_join, pullAddr, stackAddr]
  cases s.cfg.stackPushPredecrement <;> simp

/-- A push is one write event, SP one less, and memory as the write leaves it. -/
theorem push8_eq_afterEvents (v : Byte) (s : State) :
    push8 v s =
      { afterEvents [.write (pushAt s 1) v] s with sp := s.sp - 1, mem := s.memAfterWrite (pushAt s 1) v } := by
  rw [pushAt_one]
  rfl

/-- A pull is one read event, whose answer it gives, and SP one more. -/
theorem pull8_eq_afterEvents (s : State) :
    pull8 s = (answer s 0 (pullAt s 1), { afterEvents [readOf s 0 (pullAt s 1)] s with sp := s.sp + 1 }) := by
  rw [pullAt_one]
  rfl

/-- An instruction that ends after a push of `v` puts `v` in the stack page and counts its base cycles. -/
theorem exec_of_retire_push8 {op v : Byte} {i : Instr} {s : State} (meaning : exec i s = retire op false 0 (push8 v s))
    (flag : pageCrossExtra op = false) :
    exec i s = .next
      { afterEvents [.write (pushAt s 1) v] s with
        sp := s.sp - 1
        mem := s.memAfterWrite (pushAt s 1) v
        elapsed := s.elapsed + base s op } := by
  rw [meaning, retire_eq, push8_cfg, instrCycles_of_not_extra flag, push8_eq_afterEvents]
  rfl

/-! ### The statements -/

/-- Settles O23: PHA and PHP share the push and differ in the byte alone, which for PHP is P with bits 4 and 5 set. -/
theorem pushesWriteTheStack : Obligations.PushesWriteTheStack := by
  rintro s ⟨hmem, -⟩ op i v form
  have pushes : encode i = [op] ∧ exec i s = retire op false 0 (push8 v s) ∧ pageCrossExtra op = false := by
    simp only [List.mem_cons, Prod.mk.injEq, List.not_mem_nil, or_false] at form
    rcases form with ⟨rfl, rfl, rfl⟩ | ⟨rfl, rfl, rfl⟩
    · exact ⟨rfl, rfl, rfl⟩
    · rw [← Status.pushed_true_eq]
      exact ⟨rfl, rfl, rfl⟩
  obtain ⟨encoded, meaning, flag⟩ := pushes
  exact ⟨encoded, _, memoryAfter_memAfterWrite hmem _ _, exec_of_retire_push8 meaning flag⟩

/-- Settles O24: both pull the same byte; PLA's flags are the model's `setZN`, and PLP's status is `ofPulled` of the
byte. -/
theorem pullsReadTheStack : Obligations.PullsReadTheStack := by
  refine ⟨rfl, rfl, fun s => ⟨?_, Status.ofPulled (answer s 0 (pullAt s 1)), Status.toByte_ofPulled _, ?_⟩⟩
  · have meaning : exec .pla s = retire 0x68 false 0 (pullA s) := rfl
    rw [meaning, pullA, pull8_eq_afterEvents, zn_eq_setZN, retire_eq, instrCycles_of_not_extra rfl]
    rfl
  · have meaning : exec .plp s = retire 0x28 false 0 (pullP s) := rfl
    rw [meaning, pullP, pull8_eq_afterEvents, retire_eq, instrCycles_of_not_extra rfl]
    rfl

/-- Settles O25: each of the eight is `retire` of the state the statement gives, and the counts are R85's. -/
theorem flagInstructionsChangeOneFlag : Obligations.FlagInstructionsChangeOneFlag := by
  refine ⟨by decide, ?_, ?_, ?_, ?_, ?_, ?_, ?_, ?_⟩
  all_goals exact implied_of_retire rfl (fun _ => rfl) (fun _ => rfl) fun _ => rfl

end Sys2Proof.Machine

/-! PROOFS. Control transfer (R200 to R214): several pushes and several pulls in a row in the claims' words, the entry
sequence, branch targets, and what JMP, JSR, RTS, BRK, RTI and the branches answer. -/

namespace Sys2Proof.Machine

open Sys2Proof.Claims (hiByte loByte word signed answer readOf afterEvents base pushAt pullAt stackPlace written
  writeEvents MemoryAfter entryWrites vectorAt jmpForm branchForms branchTo)

/-! ### Memory after several writes (R50, R61) -/

/-- Writes made after others start from the bytes those left. -/
theorem written_append (plain : Word → Bool) (f : Word → Byte) (ws vs : List (Word × Byte)) :
    written plain f (ws ++ vs) = written plain (written plain f ws) vs := by
  induction ws generalizing f with
  | nil => rfl
  | cons w ws ih => exact ih _

/-- An address none of the writes names keeps its byte. -/
theorem written_of_not_mem (plain : Word → Bool) (f : Word → Byte) {ws : List (Word × Byte)} {a : Word}
    (h : a ∉ ws.map Prod.fst) : written plain f ws a = f a := by
  induction ws generalizing f with
  | nil => rfl
  | cons w ws ih =>
    simp only [List.map_cons, List.mem_cons, not_or] at h
    obtain ⟨other, rest⟩ := h
    simp [written, ih _ rest, other]

/-- One more write, made in a state that holds the memory the writes before it left. -/
theorem memoryAfter_append_write {s t : State} {ws : List (Word × Byte)} (h : MemoryAfter s ws t.mem)
    (map : t.addressMap = s.addressMap) (a : Word) (v : Byte) :
    MemoryAfter s (ws ++ [(a, v)]) (t.memAfterWrite a v) := by
  obtain ⟨wf, bytes⟩ := h
  have plain : t.isPlain = s.isPlain := by
    funext b
    simp only [State.isPlain, map]
  have held : t.byteAt = written s.isPlain s.byteAt ws := funext bytes
  have last := memoryAfter_memAfterWrite wf a v
  rwa [MemoryAfter, plain, held, ← written_append] at last

/-- What the bus answers after some writes: in plain memory the byte they left, elsewhere the free value. -/
theorem answer_of_memoryAfter {s t : State} {ws : List (Word × Byte)} (h : MemoryAfter s ws t.mem)
    (map : t.addressMap = s.addressMap) (k : Nat) (a : Word) :
    answer t k a = if s.isPlain a then written s.isPlain s.byteAt ws a else Config.busAnswer (t.portEvents + k) a := by
  have plain : t.isPlain a = s.isPlain a := by simp only [State.isPlain, map]
  have held : t.byteAt a = written s.isPlain s.byteAt ws a := h.2 a
  rw [answer, plain, held]

/-! ### Several pushes (R27, R54) -/

/-- A push after `k` pushes writes at the claims' place number `k + 1`. -/
theorem pushAt_succ (s : State) (k : Nat) : pushAt s (k + 1) = pushAddr s.cfg (s.sp - BitVec.ofNat 8 k) := by
  simp only [pushAt, stackPlace, word_eq_join, pushAddr, stackAddr]
  cases s.cfg.stackPushPredecrement with
  | true => simp [BitVec.ofNat_add, BitVec.sub_sub]
  | false => simp

/-- Two places of the stack page are the same only if the pushes are a multiple of 256 apart. -/
theorem pushAt_succ_inj (s : State) (j k : Nat) :
    pushAt s (j + 1) = pushAt s (k + 1) ↔ BitVec.ofNat 8 j = BitVec.ofNat 8 k := by
  rw [pushAt_succ, pushAt_succ, pushAddr, pushAddr, stackAddr_inj]
  cases s.cfg.stackPushPredecrement with
  | true => exact sub_left_inj.trans sub_right_inj
  | false => exact sub_right_inj

/-- `t` is `s` after the writes `ws`, each of them made by a push: their events, SP down by one for each, memory as they
leave it, and nothing else. -/
def Pushed (s : State) (ws : List (Word × Byte)) (t : State) : Prop :=
  ∃ m, MemoryAfter s ws m ∧
    t = { afterEvents (writeEvents ws) s with sp := s.sp - BitVec.ofNat 8 ws.length, mem := m }

theorem Pushed.refl {s : State} (h : s.mem.wf = true) : Pushed s [] s :=
  ⟨s.mem, ⟨h, fun _ => rfl⟩, by simp [writeEvents, afterEvents]⟩

section
variable {s t : State} {ws : List (Word × Byte)} (h : Pushed s ws t)
include h

theorem Pushed.memoryAfter : MemoryAfter s ws t.mem := by
  obtain ⟨m, after, rfl⟩ := h
  exact after

theorem Pushed.addressMap_eq : t.addressMap = s.addressMap := by
  obtain ⟨m, -, rfl⟩ := h
  rfl

theorem Pushed.cfg_eq : t.cfg = s.cfg := by
  obtain ⟨m, -, rfl⟩ := h
  rfl

theorem Pushed.sp_eq : t.sp = s.sp - BitVec.ofNat 8 ws.length := by
  obtain ⟨m, -, rfl⟩ := h
  rfl

theorem Pushed.then_push8 (v : Byte) : Pushed s (ws ++ [(pushAt s (ws.length + 1), v)]) (push8 v t) := by
  refine ⟨_, memoryAfter_append_write h.memoryAfter h.addressMap_eq _ v, ?_⟩
  obtain ⟨m, -, rfl⟩ := h
  simp [State.ext_iff, pushAt_succ, afterEvents, writeEvents, BitVec.ofNat_add, BitVec.sub_sub, Nat.add_assoc]

theorem Pushed.then_push16 (w : Word) :
    Pushed s (ws ++ [(pushAt s (ws.length + 1), hiByte w), (pushAt s (ws.length + 2), loByte w)]) (push16 w t) := by
  rw [push16_eq, hi8_eq_hiByte, lo8_eq_loByte]
  simpa using (h.then_push8 (hiByte w)).then_push8 (loByte w)

/-- Away from the bytes pushed, the bus goes on answering as it would have. -/
theorem Pushed.answer_eq {a : Word} (away : a ∉ ws.map Prod.fst) (k : Nat) :
    answer t k a = answer s (ws.length + k) a := by
  rw [answer_of_memoryAfter h.memoryAfter h.addressMap_eq, written_of_not_mem _ _ away]
  obtain ⟨m, -, rfl⟩ := h
  simp [answer, afterEvents, writeEvents, Nat.add_assoc]
end

/-! ### Several pulls (R28, R54) -/

/-- `s` after `n` pulls: their reads on the port, SP up by one for each, and nothing else. -/
def afterPulls (s : State) (n : Nat) : State :=
  { afterEvents ((List.range n).map fun k => readOf s k (pullAt s (k + 1))) s with sp := s.sp + BitVec.ofNat 8 n }

theorem afterPulls_zero (s : State) : afterPulls s 0 = s := by simp [afterPulls, afterEvents]

/-- A pull after `k` pulls reads at the claims' place number `k + 1`. -/
theorem pullAt_succ (s : State) (k : Nat) : pullAt s (k + 1) = pullAddr s.cfg (s.sp + BitVec.ofNat 8 k) := by
  simp only [pullAt, stackPlace, word_eq_join, pullAddr, stackAddr]
  cases s.cfg.stackPushPredecrement with
  | true => simp
  | false => simp [BitVec.ofNat_add, BitVec.add_assoc]

/-- The next pull gives the bus's answer at the next place of the stack. -/
theorem pull8_afterPulls (s : State) (n : Nat) :
    pull8 (afterPulls s n) = (answer s n (pullAt s (n + 1)), afterPulls s (n + 1)) := by
  have place : pullAddr (afterPulls s n).cfg (afterPulls s n).sp = pullAt s (n + 1) := (pullAt_succ s n).symm
  have answered : (afterPulls s n).answerAt (afterPulls s n).portEvents (pullAt s (n + 1)) =
      answer s n (pullAt s (n + 1)) := by
    simp only [afterPulls, afterEvents, answer_eq_answerAt, List.length_map, List.length_range]
    rfl
  rw [pull8_eq, place, answered]
  simp [afterPulls, afterEvents, State.ext_iff, List.range_succ, readOf, BitVec.ofNat_add, BitVec.add_assoc,
    Nat.add_assoc]

/-- A 16-bit pull gives the word of the next two answers, low byte first. -/
theorem pull16_afterPulls (s : State) (n : Nat) :
    pull16 (afterPulls s n) =
      (word (answer s (n + 1) (pullAt s (n + 2))) (answer s n (pullAt s (n + 1))), afterPulls s (n + 2)) := by
  simp only [pull16, pull8_afterPulls, word_eq_join]

/-- After `j + k + 1` pushes, pull number `k + 1` reads where push number `j + 1` wrote, in both stack orders. -/
theorem pullAt_eq_pushAt {s t : State} (cfg : t.cfg = s.cfg) (j k : Nat)
    (sp : t.sp = s.sp - BitVec.ofNat 8 (j + k + 1)) : pullAt t (k + 1) = pushAt s (j + 1) := by
  rw [pullAt_succ, pushAt_succ, cfg, sp, ← pullAddr_pushed]
  congr 1
  simp only [BitVec.ofNat_add]
  ring

/-- The two bytes of a word make it again (R7). -/
theorem word_hiByte_loByte (w : Word) : word (hiByte w) (loByte w) = w := by
  rw [word_eq_join, ← hi8_eq_hiByte, ← lo8_eq_loByte, join_hi8_lo8]

/-- What a 16-bit push put in plain memory, a 16-bit pull gives back, for both stack orders. -/
theorem Pushed.pulled_word {s t : State} {w : Word} (h : Pushed s [(pushAt s 1, hiByte w), (pushAt s 2, loByte w)] t)
    (plain1 : s.isPlain (pushAt s 1) = true) (plain2 : s.isPlain (pushAt s 2) = true) :
    word (answer t 1 (pullAt t 2)) (answer t 0 (pullAt t 1)) = w := by
  have apart : pushAt s 1 ≠ pushAt s 2 := by simp [pushAt_succ_inj]
  have hi_place : pullAt t 2 = pushAt s 1 := pullAt_eq_pushAt h.cfg_eq 0 1 h.sp_eq
  have lo_place : pullAt t 1 = pushAt s 2 := pullAt_eq_pushAt h.cfg_eq 1 0 h.sp_eq
  have answered := answer_of_memoryAfter h.memoryAfter h.addressMap_eq
  have hi : answer t 1 (pushAt s 1) = hiByte w := by simp [answered, written, plain1, apart]
  have lo : answer t 0 (pushAt s 2) = loByte w := by simp [answered, written, plain2]
  rw [hi_place, lo_place, hi, lo, word_hiByte_loByte]

/-! ### The entry sequence (R236) -/

/-- What the entry pushes of P: bit 5 set, and `b` in bit 4 whatever the stored Break bit is (R26, R236). -/
theorem Status.pushed_eq (p : Status) (b : Bool) :
    p.pushed b = (p.toByte &&& 0xCF) ||| 0x20 ||| (if b then 0x10 else 0) := by
  refine BitVec.eq_of_getLsbD_eq fun k hk => ?_
  rw [Status.pushed, BitVec.getLsbD_or, BitVec.getLsbD_or, BitVec.getLsbD_and, Status.getLsbD_toByte,
    Status.getLsbD_toByte]
  cases b <;> interval_cases k <;> simp

/-- The entry writes in the stack page alone (R23). -/
theorem not_mem_entryWrites {a : Word} (h : 512 ≤ a.toNat) (s : State) (pc : Word) (b : Bool) :
    a ∉ (entryWrites s pc b).map Prod.fst := by
  simp [entryWrites, pushAt_succ, pushAddr, stackAddr_ne_of_le h]

/-- The three pushes of the entry. -/
theorem pushed_entryWrites {s : State} (h : s.mem.wf = true) (b : Bool) :
    Pushed s (entryWrites s s.pc b) (push8 (s.p.pushed b) (push16 s.pc s)) := by
  rw [Status.pushed_eq]
  exact ((Pushed.refl h).then_push16 s.pc).then_push8 _

/-- After its pushes the entry reads the vector, sets I and clears B. -/
theorem interruptEntry_eq_reads (vector : Word) (b : Bool) (s : State) :
    interruptEntry vector b s =
      (let t := push8 (s.p.pushed b) (push16 s.pc s)
       { afterEvents [readOf t 0 vector, readOf t 1 (vector + 1)] t with
         pc := vectorAt t 0 vector
         p := { s.p with b := false, i := true } }) := by
  rw [interruptEntry, read16, read16At_eq_word]
  rfl

/-- The entry through NMI's or IRQ's vector, from `s`: no push touches the vector, so its bytes are those the bus answers
from `s`, as events 3 and 4. -/
theorem interruptEntry_eq_afterEvents {s : State} (h : s.mem.wf = true) {vector : Word}
    (hv : vector = 0xFFFA ∨ vector = 0xFFFE) (b : Bool) :
    ∃ m, MemoryAfter s (entryWrites s s.pc b) m ∧
      interruptEntry vector b s =
        { afterEvents (writeEvents (entryWrites s s.pc b) ++ [readOf s 3 vector, readOf s 4 (vector + 1)]) s with
          pc := vectorAt s 3 vector
          sp := s.sp - 3
          p := { s.p with b := false, i := true }
          mem := m } := by
  have high : 512 ≤ vector.toNat ∧ 512 ≤ (vector + 1).toNat := by rcases hv with rfl | rfl <;> decide
  have pushed := pushed_entryWrites h b
  have lo := pushed.answer_eq (not_mem_entryWrites high.1 s s.pc b) 0
  have hi := pushed.answer_eq (not_mem_entryWrites high.2 s s.pc b) 1
  obtain ⟨m, after, pushed_eq⟩ := pushed
  refine ⟨m, after, ?_⟩
  simp only [interruptEntry_eq_reads, readOf, vectorAt, Nat.zero_add, lo, hi]
  rw [pushed_eq]
  simp [afterEvents, writeEvents, entryWrites]

/-- The offset R6 allows gives the address BRK pushes. -/
theorem brk_return_eq {c : Config} (h : c.wf = true) (pc : Word) :
    pc + BitVec.ofNat 16 c.brkPcPushOffset - 1 =
      if c.brkPcPushOffset = 2 then BitVec.ofNat 16 (pc.toNat + 1) else pc := by
  have range : c.brkPcPushOffset = 1 ∨ c.brkPcPushOffset = 2 := by
    simp only [Config.wf, Bool.and_eq_true, Bool.or_eq_true, beq_iff_eq] at h
    exact h.1.1
  rcases range with one | two
  · simp [one]
  · rw [two, if_pos rfl]
    bv_omega

/-! ### Branch targets (R115, R206) -/

theorem signed_eq_toInt (v : Byte) : signed v = v.toInt := by
  rw [signed, BitVec.toInt_eq_toNat_cond]
  split <;> split <;> omega

/-- The target is PC plus the displacement read as two's complement. -/
theorem branchTarget_eq_branchTo (rel : Byte) (s : State) : branchTarget rel s = branchTo s.pc rel := by
  rw [branchTarget, branchTo, signed_eq_toInt, BitVec.ofInt_add]
  simp [sext16, BitVec.signExtend]

/-! ### Cycles and forms (R82, R201, R207 to R214) -/

/-- An instruction whose mode reports no page cross takes its base count and what its handler adds. -/
theorem instrCycles_not_crossed (s : State) (op : Byte) (extra : Nat) :
    instrCycles s.cfg op false extra = base s op + extra := by
  simp [instrCycles, base, baseCycles]

/-- Every branch is `branch` on its own opcode and flag. -/
theorem branchForms_mean {rel op : Byte} {i : Instr} {cond : Bool} {s : State}
    (h : (op, i, cond) ∈ branchForms rel s.p) : encode i = [op, rel] ∧ exec i s = branch op cond rel s := by
  simp only [branchForms, List.mem_cons, Prod.mk.injEq, List.not_mem_nil, or_false] at h
  rcases h with ⟨rfl, rfl, rfl⟩ | ⟨rfl, rfl, rfl⟩ | ⟨rfl, rfl, rfl⟩ | ⟨rfl, rfl, rfl⟩ | ⟨rfl, rfl, rfl⟩ |
    ⟨rfl, rfl, rfl⟩ | ⟨rfl, rfl, rfl⟩ | ⟨rfl, rfl, rfl⟩
  all_goals exact ⟨rfl, rfl⟩

theorem jmpForm_mean : WriteFormsMean jmpForm jump
  | .absolute _, _, _, rfl | .indirect _, _, _, rfl => ⟨congrArg (_ :: ·) (lo8_hi8_eq _), fun _ => rfl, rfl⟩

/-! ### The statements -/

/-- Settles O27: both forms are `jump`, and where it goes and what it reads is R118's table. -/
theorem jumpGoesToTheOperand : Obligations.JumpGoesToTheOperand := by
  intro o op i s form
  obtain ⟨encoded, meaning, flag⟩ := jmpForm_mean o op i form
  refine ⟨encoded, ?_⟩
  rw [meaning, jump_eq, instrCycles_of_not_extra flag, resolveFollowsModeTable o s]

/-- Settles O28: the return address is PC - 1, and the two pushes are `Pushed.then_push16` from `s`. -/
theorem jsrPushesReturnMinusOne : Obligations.JsrPushesReturnMinusOne := by
  refine ⟨by decide, ?_⟩
  rintro target s ⟨hmem, -⟩ ret ws
  refine ⟨congrArg (_ :: ·) (lo8_hi8_eq target), ?_⟩
  have ret_eq : s.pc - 1 = ret := by
    simp only [ret]
    bv_omega
  obtain ⟨m, after, pushed⟩ := (Pushed.refl hmem).then_push16 ret
  refine ⟨m, after, ?_⟩
  have meaning : exec (.jsrAbs target) s = retire 0x20 false 0 (callSubroutine target s) := rfl
  rw [meaning, callSubroutine_eq, ret_eq, pushed, retire_eq, instrCycles_not_crossed]
  rfl

/-- Settles O29: RTS is two pulls, from `s` on. -/
theorem rtsPullsAndAddsOne : Obligations.RtsPullsAndAddsOne := by
  refine ⟨by decide, rfl, fun s => ?_⟩
  have meaning : exec .rts s = retire 0x60 false 0 (returnFromSubroutine s) := rfl
  have pulled := pull16_afterPulls s 0
  rw [afterPulls_zero] at pulled
  rw [meaning, returnFromSubroutine_eq, pulled, retire_eq, instrCycles_not_crossed, BitVec.ofNat_add,
    BitVec.ofNat_toNat, BitVec.setWidth_eq]
  rfl

/-- Settles O33: RTI is three pulls, and the P it loads after the first moves none of the others. -/
theorem rtiRestoresStatusAndPc : Obligations.RtiRestoresStatusAndPc := by
  refine ⟨rfl, fun s => ⟨Status.ofPulled (answer s 0 (pullAt s 1)), Status.toByte_ofPulled _, ?_⟩⟩
  have meaning : exec .rti s = retire 0x40 false 0 (returnFromInterrupt s) := rfl
  have status := pull8_afterPulls s 0
  rw [afterPulls_zero] at status
  have loaded (q : Status) : (afterPulls s 1).setP q = afterPulls (s.setP q) 1 := rfl
  rw [meaning, returnFromInterrupt_eq, status, loaded, pull16_afterPulls, retire_eq, instrCycles_not_crossed]
  rfl

/-- Settles O32: BRK is the entry, from `s` with the address it pushes in PC. -/
theorem brkEntersThroughIrqVector : Obligations.BrkEntersThroughIrqVector := by
  refine ⟨rfl, ?_⟩
  rintro s ⟨hmem, hcfg⟩ ret
  have entry_wf : ({ s with pc := ret } : State).mem.wf = true := hmem
  obtain ⟨m, after, entered⟩ := interruptEntry_eq_afterEvents entry_wf (.inr rfl : irqVector = 0xFFFA ∨ _) true
  refine ⟨m, after, ?_⟩
  have meaning : exec .brk s = retire 0x00 false 0 (softwareInterrupt s) := rfl
  rw [meaning, softwareInterrupt_eq, brk_return_eq hcfg, entered, retire_eq, instrCycles_not_crossed]
  rfl

/-- Settles O35: each branch is `branch` on its flag; the target is `branchTo`, and a page cross is two quotients by 256
that differ. -/
theorem branchesFollowTheirFlag : Obligations.BranchesFollowTheirFlag := by
  intro rel op i cond s form
  obtain ⟨encoded, meaning⟩ := branchForms_mean form
  refine ⟨encoded, ?_, ?_⟩ <;> rintro rfl
  · rw [meaning, branch_eq, branchCrossed, pageCrossed_eq, branchTarget_eq_branchTo, instrCycles_not_crossed,
      Nat.add_assoc]
    simp
  · rw [meaning, branch_eq, instrCycles_not_crossed]
    rfl

/-- Settles O30: RTS pulls at the places JSR pushed to, where plain memory holds the two bytes of PC - 1. -/
theorem rtsUndoesJsr : Obligations.RtsUndoesJsr := by
  rintro target at_ s inv plain1 plain2
  obtain ⟨-, jsr⟩ := jsrPushesReturnMinusOne
  obtain ⟨-, -, rts⟩ := rtsPullsAndAddsOne
  obtain ⟨-, m, after, called⟩ := jsr target s inv
  have pulled := Pushed.pulled_word (s := { s with pc := at_, elapsed := s.elapsed + base s 0x20 }) ⟨m, after, rfl⟩
    plain1 plain2
  refine ⟨_, _, called, rfl, rts _, ?_, ?_, rfl, rfl, rfl, rfl⟩
  · refine (congrArg (fun w : Word => BitVec.ofNat 16 (w.toNat + 1)) pulled).trans ?_
    bv_omega
  · exact BitVec.sub_add_cancel _ _

end Sys2Proof.Machine

/-! PROOFS. Exceptions and the step (R230 to R252): who enters a handler and how, that RTI undoes an entry, which interrupt
a step services, and that a Running machine completes every step and every call but `stop`. -/

namespace Sys2Proof.Machine

open Sys2Proof.Claims (hiByte loByte word answer pullAt pushAt written MemoryAfter entryWrites)

/-! ### The way back from a handler (R205, R236, R239) -/

/-- P's byte holds every flag at a bit of its own, so it determines P (R25). -/
theorem Status.toByte_injective : Function.Injective Status.toByte := by
  intro p q same
  have flags (k : Nat) : p.toByte.getLsbD k = q.toByte.getLsbD k := congrArg (·.getLsbD k) same
  simp only [Status.getLsbD_toByte] at flags
  cases p
  cases q
  rw [Status.mk.injEq]
  exact ⟨by simpa using flags 0, by simpa using flags 1, by simpa using flags 2, by simpa using flags 3,
    by simpa using flags 4, by simpa using flags 6, by simpa using flags 7⟩

/-- RTI drops bit 4 of the byte an entry pushed and sets bit 5: what is left is P with B clear, whatever bit 4 was
(R205, R236). -/
theorem Status.pulled_pushed_eq (p : Status) (b : Bool) :
    (p.pushed b &&& 0xCF) ||| 0x20 = ({ p with b := false } : Status).toByte := by
  refine BitVec.eq_of_getLsbD_eq fun k hk => ?_
  rw [BitVec.getLsbD_or, BitVec.getLsbD_and, Status.pushed, Status.getLsbD_toByte, Status.getLsbD_toByte]
  interval_cases k <;> simp

/-- The stack as an entry from `s` leaves it, and RTI finds it when the handler has left it so: the three bytes the entry
pushed, SP below them, and the bus and the parameters of `s`. -/
structure EntryStacked (s : State) (pc : Word) (b : Bool) (t : State) : Prop where
  after : MemoryAfter s (entryWrites s pc b) t.mem
  map : t.addressMap = s.addressMap
  cfg : t.cfg = s.cfg
  sp : t.sp = s.sp - 3

/-- An entry through NMI's or IRQ's vector leaves the stack so (R236). -/
theorem interruptEntry_stacked {s : State} (inv : s.Inv) {vector : Word} (valid : vector = 0xFFFA ∨ vector = 0xFFFE)
    (b : Bool) : EntryStacked s s.pc b (interruptEntry vector b s) := by
  obtain ⟨hmem, -⟩ := inv
  obtain ⟨m, after, entered⟩ := interruptEntry_eq_afterEvents hmem valid b
  rw [entered]
  exact ⟨after, rfl, rfl, rfl⟩

/-- BRK leaves the stack so, with the address BRK_PC_PUSH_OFFSET gives in place of PC (R204). -/
theorem exec_brk_stacked {s : State} (inv : s.Inv) :
    ∃ t, exec .brk s = .next t ∧
      EntryStacked s (if s.cfg.brkPcPushOffset = 2 then BitVec.ofNat 16 (s.pc.toNat + 1) else s.pc) true t := by
  obtain ⟨-, brk⟩ := brkEntersThroughIrqVector
  obtain ⟨m, after, executed⟩ := brk s inv
  exact ⟨_, executed, after, rfl, rfl, rfl⟩

section
variable {s t : State} {pc : Word} {b : Bool} (h : EntryStacked s pc b t)
  (plain1 : s.isPlain (pushAt s 1) = true) (plain2 : s.isPlain (pushAt s 2) = true)
  (plain3 : s.isPlain (pushAt s 3) = true)
include h plain1 plain2 plain3

/-- The three pulls give the three bytes back, the last one pushed first. -/
theorem EntryStacked.answers :
    answer t 0 (pullAt t 1) = s.p.pushed b ∧ answer t 1 (pullAt t 2) = loByte pc ∧
      answer t 2 (pullAt t 3) = hiByte pc := by
  have place1 : pullAt t 1 = pushAt s 3 := pullAt_eq_pushAt h.cfg 2 0 h.sp
  have place2 : pullAt t 2 = pushAt s 2 := pullAt_eq_pushAt h.cfg 1 1 h.sp
  have place3 : pullAt t 3 = pushAt s 1 := pullAt_eq_pushAt h.cfg 0 2 h.sp
  have apart12 : pushAt s 1 ≠ pushAt s 2 := by simp [pushAt_succ_inj]
  have apart13 : pushAt s 1 ≠ pushAt s 3 := by simp [pushAt_succ_inj]
  have apart23 : pushAt s 2 ≠ pushAt s 3 := by simp [pushAt_succ_inj]
  have answered := answer_of_memoryAfter h.after h.map
  rw [place1, place2, place3, Status.pushed_eq]
  simp [answered, entryWrites, written, plain1, plain2, plain3, apart12, apart13, apart23]

/-- RTI, wherever it stands, resumes at the address the entry pushed, with SP and the flags of before it and B clear
(R205, R239). -/
theorem EntryStacked.rti (at_ : Word) :
    ∃ u, exec .rti { t with pc := at_ } = .next u ∧ u.pc = pc ∧ u.sp = s.sp ∧
      u.p = { s.p with b := false } ∧ u.a = t.a ∧ u.x = t.x ∧ u.y = t.y := by
  have moved : EntryStacked s pc b { t with pc := at_ } := ⟨h.after, h.map, h.cfg, h.sp⟩
  obtain ⟨status, lo, hi⟩ := moved.answers plain1 plain2 plain3
  obtain ⟨-, returns⟩ := rtiRestoresStatusAndPc
  obtain ⟨q, q_eq, executed⟩ := returns { t with pc := at_ }
  rw [status, Status.pulled_pushed_eq] at q_eq
  refine ⟨_, executed, ?_, ?_, Status.toByte_injective q_eq, rfl, rfl, rfl⟩
  · exact (congrArg₂ word hi lo).trans (word_hiByte_loByte pc)
  · exact (congrArg (· + 3) h.sp).trans (BitVec.sub_add_cancel _ _)
end

/-! ### A Running machine goes on (R230, R240, R250, R252) -/

/-- No part of a step halts the machine or fails: servicing, fetching and the instruction all keep it Running (R230). -/
theorem step_next_of_running {s : State} (h : s.runState = .running) : ∃ t, step s = .next t ∧ t.runState = .running := by
  obtain ⟨t, executed, -, -, kept, -⟩ := exec_completes (fetch (serviceInterrupts (clearOutputs s))).1
    (fetch (serviceInterrupts (clearOutputs s))).2
  refine ⟨t, (step_running h).trans executed, ?_⟩
  simpa [h] using kept

/-- Every call but `stop` answers a next state of a Running machine, and leaves it Running (R233, R240, R272). -/
theorem perform_next_of_running {c : Call} {s : State} (hc : c ≠ .stop) (h : s.runState = .running) :
    ∃ t, perform c s = .next t ∧ t.runState = .running := by
  cases c with
  | step => exact step_next_of_running h
  | reset => exact ⟨_, rfl, rfl⟩
  | requestInterrupt k => cases k <;> exact ⟨_, rfl, h⟩
  | stop => exact absurd rfl hc

/-! ### The statements -/

/-- Settles O31: the entry is `interruptEntry_eq_afterEvents`, and `service` is what R240 calls with each vector. -/
theorem interruptEntrySavesAndVectors : Obligations.InterruptEntrySavesAndVectors :=
  ⟨fun _ b _ ⟨hmem, _⟩ valid => interruptEntry_eq_afterEvents hmem valid b, fun _ => rfl, fun _ => rfl⟩

/-- Settles O34: an entry and BRK both leave the stack `EntryStacked`, which RTI undoes, and the entry keeps A, X and Y. -/
theorem rtiUndoesEntry : Obligations.RtiUndoesEntry := by
  intro at_ s inv plain1 plain2 plain3
  refine ⟨fun vector b valid => ?_, ?_⟩
  · simpa using (interruptEntry_stacked inv valid b).rti plain1 plain2 plain3 at_
  · obtain ⟨t, entered, stacked⟩ := exec_brk_stacked inv
    obtain ⟨u, returned, pc_eq, sp_eq, p_eq, -⟩ := stacked.rti plain1 plain2 plain3 at_
    exact ⟨t, u, entered, returned, sp_eq, p_eq, pc_eq⟩

/-- Settles O40: `step_halted` is the error value of R252, `step_next_of_running` the other run state. -/
theorem stepStopsExactlyWhileHalted : Obligations.StepStopsExactlyWhileHalted :=
  fun _ => ⟨step_halted, step_next_of_running⟩

/-- Settles O41: the part of `exec_completes` that is about the latches, the run state, the parameters and the map. -/
theorem everyInstructionCompletes : Obligations.EveryInstructionCompletes := by
  intro i s
  obtain ⟨t, executed, nmi, irq, run, map, cfg, -⟩ := exec_completes i s
  exact ⟨t, executed, nmi, irq, run, cfg, map⟩

/-- Settles O50: by induction on the list of calls, the machine staying Running (`perform_next_of_running`). -/
theorem runsWithoutStopAreSafe : Obligations.RunsWithoutStopAreSafe := by
  intro cs s no_stop running
  induction cs generalizing s with
  | nil => exact ⟨s, rfl⟩
  | cons c cs ih =>
    have other : c ≠ .stop := (List.ne_of_not_mem_cons no_stop).symm
    obtain ⟨u, performed, still_running⟩ := perform_next_of_running other running
    obtain ⟨t, runs⟩ := ih u (List.not_mem_of_not_mem_cons no_stop) still_running
    exact ⟨t, u, performed, runs⟩

/-- Settles O38: the three cases are those of `serviceInterrupts_cases`, after the outputs are cleared. -/
theorem stepServicesAtMostOneInterrupt : Obligations.StepServicesAtMostOneInterrupt := by
  intro s running
  have stepped : step s = executeOne (serviceInterrupts (clearOutputs s)) := step_running running
  rw [stepped]
  rcases serviceInterrupts_cases (clearOutputs s) with ⟨(nmi : s.pendingNmi = true), serviced⟩ |
    ⟨(nmi : s.pendingNmi = false), (irq : s.pendingIrq = true), (unmasked : s.p.i = false), serviced⟩ |
    ⟨(nmi : s.pendingNmi = false), (held : s.pendingIrq = false ∨ s.p.i = true), serviced⟩ <;> rw [serviced]
  · refine ⟨fun _ => rfl, ?_, ?_⟩ <;> simp [nmi]
  · refine ⟨?_, fun _ _ _ => rfl, ?_⟩ <;> simp [nmi, irq, unmasked]
  · refine ⟨?_, ?_, fun _ _ => rfl⟩
    · simp [nmi]
    · rcases held with irq | masked <;> simp [*]

/-- Settles O45: both calls are record updates of that one field (R233, R250). -/
theorem requestAndStopChangeOneElement : Obligations.RequestAndStopChangeOneElement :=
  fun _ => ⟨rfl, rfl, rfl⟩

end Sys2Proof.Machine

/-! PROOFS. Reset and timing (R270 to R289): the fetch of the RESET vector that `PowerUp` and `reset` share, the values
each leaves, and that the cycle count and the timing parameters affect nothing but the cycle count. -/

namespace Sys2Proof.Machine

open Sys2Proof.Claims (readOf afterEvents vectorAt timeless)

/-! ### The RESET vector (R232, R270, R272) -/

/-- Fetching a vector takes two reads, low byte first, of the word the claims name (R54). -/
theorem read16_eq_vectorAt (vector : Word) (s : State) :
    read16 vector s = (vectorAt s 0 vector, afterEvents [readOf s 0 vector, readOf s 1 (vector + 1)] s) :=
  read16At_eq_word vector (vector + 1) s

/-! ### Nothing but the cycle count depends on time (R285) -/

/-- An answer with its next state, if any, without what only the cycle count depends on. -/
def untimed : Result → Result
  | .next t => .next (timeless t)
  | r => r

/-- An answer that is the next state `t` but for time is a next state that is `t` but for time. -/
theorem eq_next_of_untimed_eq {r : Result} {t : State} (h : untimed r = .next (timeless t)) :
    ∃ t', r = .next t' ∧ timeless t' = timeless t := by
  cases r with
  | next t' => exact ⟨t', rfl, Host.Outcome.next.inj h⟩
  | fault f => cases h
  | refused f => cases h

/-- The cycles of an instruction go to the count alone, so its answer depends on time as its effect does (R82). -/
theorem untimed_retire_congr {t t' : State} (h : timeless t = timeless t') {op : Byte} {crossed crossed' : Bool}
    {extra extra' : Nat} : untimed (retire op crossed extra t) = untimed (retire op crossed' extra' t') :=
  congrArg Host.Outcome.next h

theorem read8_timeless (addr : Word) (s : State) :
    read8 addr (timeless s) = ((read8 addr s).1, timeless (read8 addr s).2) := rfl

theorem write8_timeless (addr : Word) (v : Byte) (s : State) :
    write8 addr v (timeless s) = timeless (write8 addr v s) := rfl

/-- JMP_INDIRECT_PAGE_WRAP is no timing parameter, so a pointer is read at the same addresses (R100, R112). -/
theorem resolve_timeless (o : MemOperand) (s : State) :
    resolve o (timeless s) = { resolve o s with after := timeless (resolve o s).after } := by
  cases o <;> rfl

theorem readOperand_timeless (o : ReadOperand) (s : State) :
    readOperand o (timeless s) = { readOperand o s with after := timeless (readOperand o s).after } := by
  cases o with
  | immediate v => rfl
  | memory m => simp only [readOperand, resolve_timeless, read8_timeless]

section
variable (op : Byte) (o : ReadOperand) (s : State)
theorem loadA_timeless : untimed (loadA op o (timeless s)) = untimed (loadA op o s) := by
  simp only [loadA, readOperand_timeless]
  apply untimed_retire_congr
  rfl
theorem loadX_timeless : untimed (loadX op o (timeless s)) = untimed (loadX op o s) := by
  simp only [loadX, readOperand_timeless]
  apply untimed_retire_congr
  rfl
theorem loadY_timeless : untimed (loadY op o (timeless s)) = untimed (loadY op o s) := by
  simp only [loadY, readOperand_timeless]
  apply untimed_retire_congr
  rfl
theorem adc_timeless : untimed (adc op o (timeless s)) = untimed (adc op o s) := by
  simp only [adc, finishAdd, readOperand_timeless]
  apply untimed_retire_congr
  rfl
theorem sbc_timeless : untimed (sbc op o (timeless s)) = untimed (sbc op o s) := by
  simp only [sbc, finishAdd, readOperand_timeless]
  apply untimed_retire_congr
  rfl
theorem compareWith_timeless (reg : Byte) :
    untimed (compareWith op reg o (timeless s)) = untimed (compareWith op reg o s) := by
  simp only [compareWith, readOperand_timeless]
  apply untimed_retire_congr
  rfl
theorem andA_timeless : untimed (andA op o (timeless s)) = untimed (andA op o s) := by
  simp only [andA, readOperand_timeless]
  apply untimed_retire_congr
  rfl
theorem oraA_timeless : untimed (oraA op o (timeless s)) = untimed (oraA op o s) := by
  simp only [oraA, readOperand_timeless]
  apply untimed_retire_congr
  rfl
theorem eorA_timeless : untimed (eorA op o (timeless s)) = untimed (eorA op o s) := by
  simp only [eorA, readOperand_timeless]
  apply untimed_retire_congr
  rfl
end

section
variable (op : Byte) (o : MemOperand) (s : State)
theorem bitTest_timeless : untimed (bitTest op o (timeless s)) = untimed (bitTest op o s) := by
  simp only [bitTest, readOperand_timeless]
  apply untimed_retire_congr
  rfl
theorem store_timeless (v : Byte) : untimed (store op v o (timeless s)) = untimed (store op v o s) := by
  simp only [store, resolve_timeless, write8_timeless]
  apply untimed_retire_congr
  rfl
theorem shiftMem_timeless (f : Byte → Bool → Byte × Bool) :
    untimed (shiftMem op f o (timeless s)) = untimed (shiftMem op f o s) := by
  simp only [shiftMem, resolve_timeless, read8_timeless, write8_timeless]
  apply untimed_retire_congr
  rfl
theorem incMem_timeless : untimed (incMem op o (timeless s)) = untimed (incMem op o s) := by
  simp only [incMem, resolve_timeless, read8_timeless, write8_timeless]
  apply untimed_retire_congr
  rfl
theorem decMem_timeless : untimed (decMem op o (timeless s)) = untimed (decMem op o s) := by
  simp only [decMem, resolve_timeless, read8_timeless, write8_timeless]
  apply untimed_retire_congr
  rfl
theorem jump_timeless : untimed (jump op o (timeless s)) = untimed (jump op o s) := by
  simp only [jump, resolve_timeless]
  apply untimed_retire_congr
  rfl
end

/-- The extra cycles of a taken branch go to the count too; PC depends on the condition and the target (R206). -/
theorem branch_timeless (op : Byte) (cond : Bool) (rel : Byte) (s : State) :
    untimed (branch op cond rel (timeless s)) = untimed (branch op cond rel s) := by
  simp only [branch_eq]
  rfl

/-- No instruction reads the count, and the timing parameters enter the count alone: one case for each family that reads
an operand or branches, and for the others all else that they compute is the same by its definition. -/
theorem exec_timeless (i : Instr) (s : State) : untimed (exec i (timeless s)) = untimed (exec i s) := by
  cases i with
  | ldaImm | ldaZp | ldaZpX | ldaAbs | ldaAbsX | ldaAbsY | ldaIndX | ldaIndY => exact loadA_timeless _ _ s
  | ldxImm | ldxZp | ldxZpY | ldxAbs | ldxAbsY => exact loadX_timeless _ _ s
  | ldyImm | ldyZp | ldyZpX | ldyAbs | ldyAbsX => exact loadY_timeless _ _ s
  | staZp | staZpX | staAbs | staAbsX | staAbsY | staIndX | staIndY | stxZp | stxZpY | stxAbs | styZp | styZpX | styAbs =>
    exact store_timeless _ _ s _
  | adcImm | adcZp | adcZpX | adcAbs | adcAbsX | adcAbsY | adcIndX | adcIndY => exact adc_timeless _ _ s
  | sbcImm | sbcZp | sbcZpX | sbcAbs | sbcAbsX | sbcAbsY | sbcIndX | sbcIndY => exact sbc_timeless _ _ s
  | cmpImm | cmpZp | cmpZpX | cmpAbs | cmpAbsX | cmpAbsY | cmpIndX | cmpIndY | cpxImm | cpxZp | cpxAbs | cpyImm | cpyZp
  | cpyAbs => exact compareWith_timeless _ _ s _
  | incZp | incZpX | incAbs | incAbsX => exact incMem_timeless _ _ s
  | decZp | decZpX | decAbs | decAbsX => exact decMem_timeless _ _ s
  | andImm | andZp | andZpX | andAbs | andAbsX | andAbsY | andIndX | andIndY => exact andA_timeless _ _ s
  | oraImm | oraZp | oraZpX | oraAbs | oraAbsX | oraAbsY | oraIndX | oraIndY => exact oraA_timeless _ _ s
  | eorImm | eorZp | eorZpX | eorAbs | eorAbsX | eorAbsY | eorIndX | eorIndY => exact eorA_timeless _ _ s
  | bitZp | bitAbs => exact bitTest_timeless _ _ s
  | aslZp | aslZpX | aslAbs | aslAbsX | lsrZp | lsrZpX | lsrAbs | lsrAbsX | rolZp | rolZpX | rolAbs | rolAbsX | rorZp
  | rorZpX | rorAbs | rorAbsX => exact shiftMem_timeless _ _ s _
  | jmpAbs | jmpInd => exact jump_timeless _ _ s
  | bcc | bcs | beq | bne | bmi | bpl | bvc | bvs => exact branch_timeless _ _ _ s
  | ill => rfl
  | _ =>
    apply untimed_retire_congr
    rfl

/-- Fetching neither reads nor counts cycles: the opcode byte and PC decide what is read. -/
theorem fetch_timeless (s : State) : fetch (timeless s) = ((fetch s).1, timeless (fetch s).2) := by
  have opcode_eq : (fetchByte (timeless s)).1 = (fetchByte s).1 := rfl
  simp only [fetch, opcode_eq]
  split <;> rfl

/-- Which interrupt is due hangs on the latches and I, and INTERRUPT_CYCLES goes to the count alone (R245). -/
theorem serviceInterrupts_timeless (s : State) :
    timeless (serviceInterrupts (timeless s)) = timeless (serviceInterrupts s) := by
  have due_eq : dueInterrupt (timeless s) = dueInterrupt s := rfl
  simp only [serviceInterrupts, due_eq]
  cases dueInterrupt s with
  | none => rfl
  | some k => cases k <;> rfl

/-- Fetching and executing from states that agree but for time give answers that do. -/
theorem executeOne_timeless (s : State) : untimed (executeOne (timeless s)) = untimed (executeOne s) := by
  simp only [executeOne, fetch_timeless, exec_timeless]

theorem executeOne_congr_timeless {s s' : State} (h : timeless s = timeless s') :
    untimed (executeOne s) = untimed (executeOne s') := by
  rw [← executeOne_timeless s, h, executeOne_timeless s']

/-- So does a step: Halted it answers the error value, Running it services, fetches and executes (R240, R252). -/
theorem step_timeless (s : State) : untimed (step (timeless s)) = untimed (step s) := by
  have run_eq : (timeless s).runState = s.runState := rfl
  have cleared : clearOutputs (timeless s) = timeless (clearOutputs s) := rfl
  simp only [step, run_eq, cleared]
  cases s.runState with
  | halted => rfl
  | running => exact executeOne_congr_timeless (serviceInterrupts_timeless (clearOutputs s))

/-! ### The statements -/

/-- Settles O55: both steps answer as the step from the one timeless state does (`step_timeless`). -/
theorem cycleCountsAffectNothingElse : Obligations.CycleCountsAffectNothingElse := by
  intro s s' t agree stepped
  have answered : untimed (step s') = .next (timeless t) :=
    calc untimed (step s') = untimed (step (timeless s')) := (step_timeless s').symm
      _ = untimed (step (timeless s)) := by rw [agree]
      _ = untimed (step s) := step_timeless s
      _ = .next (timeless t) := by rw [stepped, untimed]
  obtain ⟨t', stepped', agree'⟩ := eq_next_of_untimed_eq answered
  exact ⟨t', stepped', agree'.symm⟩

/-- Settles O42: the phantom pushes, I, the latches and the run state touch no byte the vector fetch reads (R272). -/
theorem resetKeepsTheRest : Obligations.ResetKeepsTheRest := by
  intro s
  simp only [hardwareReset, read16_eq_vectorAt]
  rfl

/-- Settles O43: the registers are the record `PowerUp` builds, and PC and the bus events come from its vector fetch. -/
theorem powerUpValues : Obligations.PowerUpValues := by
  intro cfg map mem
  have p_byte : State.reset.p.toByte = 0x34 := by decide
  simp only [powerUp, read16_eq_vectorAt]
  exact ⟨rfl, rfl, rfl, p_byte, rfl, rfl, rfl, rfl, rfl, rfl, rfl, rfl, rfl, rfl⟩

/-- Settles O44: with the empty map both vector bytes are plain, and the empty memory reads 0x00 there. -/
theorem resetStateIsPowerUp : Obligations.ResetStateIsPowerUp := ⟨rfl, rfl⟩

end Sys2Proof.Machine
